-- ==== Sys2Proof/Word.lean ====
section
/-! DEFINITION. The word type. The block has one input, a 32-bit unsigned instruction word (spec/10_state.md R21,
spec/00_scope.md R10). A word is a bit vector because the block reads it as bits and nothing else. -/

namespace Sys2Proof

/-- One ARM instruction word, `w[31:0]`; bit 0 is the least significant (R11). -/
abbrev Word := BitVec 32

/-- One unsigned byte, the unit of the branch offset (R42). -/
abbrev Byte := BitVec 8

end Sys2Proof
end

