-- ==== Sys2Proof/Config.lean ====
section
/-! DEFINITION. The implementation parameters of the block (spec/00_scope.md R10), as the types of the encoded fields.
"No parameter is left open" (R10), and no behaviour of the block is left to an unconstrained value
(spec/93_implementation_defined.md, Part 1: none is `any value` or `stuck`), so this file holds no free value. -/

namespace Sys2Proof

/-- The condition field, 4 bits (R10, R62). -/
abbrev CondField := BitVec 4

/-- The major-opcode field, 3 bits (R10, R62). -/
abbrev MajorField := BitVec 3

/-- The ALU opcode field, 4 bits (R10, R62). -/
abbrev OpcodeField := BitVec 4

/-- A register index field, 4 bits (R10, R62). -/
abbrev RegField := BitVec 4

/-- The PSR mask field, 4 bits (R10, R62). -/
abbrev MaskField := BitVec 4

/-- The value of an operand-2 immediate, 8 bits (R10, R62). -/
abbrev Imm8Field := BitVec 8

/-- The raw rotate of an operand-2 immediate, 4 bits (R10, R62). -/
abbrev RotateField := BitVec 4

/-- The raw immediate shift amount, 5 bits (R10, R62). -/
abbrev ShiftImmField := BitVec 5

/-- The shift-type field, 2 bits (R62). -/
abbrev ShiftField := BitVec 2

/-- The Mode2 immediate offset, 12 bits (R10, R62). -/
abbrev Imm12Field := BitVec 12

/-- The branch offset, 24 bits (R10, R62). -/
abbrev Offset24Field := BitVec 24

/-- The width in bits of the one instruction length the block has (R10, R60). -/
def Config.instructionBits : Nat := 32

end Sys2Proof
end

