-- ==== Sys2Proof/Machine/Fields.lean ====
section
/-! DEFINITION. The bit-field primitives of the block's leaf unit (spec/30_encoding.md R61 to R64) and the decode bits and
fields under the spec's own names. The positions of Rn, Rd, Rs, Rm, `shift`, `shift_imm` and `imm12` are the spec's
decisions D3, D4 and D9, from general knowledge of the architecture (PRESUMED there; notes/assumptions/5.md). -/

namespace Sys2Proof

/-- R63: `field(w, lo, width) = w[lo+width-1 : lo]`, defined only for `lo + width ≤ 32`. -/
def field (w : Word) (lo width : Nat) (_h : lo + width ≤ 32 := by decide) : BitVec width :=
  w.extractLsb' lo width

/-- R12, R63: `flag(w, k)` is `field(w, k, 1) ≠ 0`. -/
def flag (w : Word) (k : Nat) (h : k + 1 ≤ 32 := by decide) : Bool :=
  field w k 1 h != 0#1

/-- R64: the sign-extension primitive, written as the rule writes it. Bits 31-24 of the argument are ignored
(decision D13; notes/assumptions/8.md). No decode path applies it. -/
def sext24 (v : Word) : Word :=
  if flag v 23 then (field v 0 24).setWidth 32 ||| 0xFF000000#32 else (field v 0 24).setWidth 32

/-- The signed value of `sext24`. -/
def sext24Int (v : Word) : Int := (sext24 v).toInt

/-! The multi-bit fields of R62. -/

abbrev condOf (w : Word) : CondField := field w 28 4
abbrev majorOf (w : Word) : MajorField := field w 25 3
abbrev opcodeOf (w : Word) : OpcodeField := field w 21 4
abbrev maskFieldOf (w : Word) : MaskField := field w 16 4
abbrev imm8Of (w : Word) : Imm8Field := field w 0 8
abbrev rotateOf (w : Word) : RotateField := field w 8 4
abbrev offset24Of (w : Word) : Offset24Field := field w 0 24
abbrev rnOf (w : Word) : RegField := field w 16 4
abbrev rdOf (w : Word) : RegField := field w 12 4
abbrev rsOf (w : Word) : RegField := field w 8 4
abbrev rmOf (w : Word) : RegField := field w 0 4
abbrev shiftImmOf (w : Word) : ShiftImmField := field w 7 5
abbrev shiftOf (w : Word) : ShiftField := field w 5 2
abbrev imm12Of (w : Word) : Imm12Field := field w 0 12

/-! The decode bits of R61. -/

abbrev foOf (w : Word) : Bool := flag w 4
abbrev seOf (w : Word) : Bool := flag w 7
abbrev sOf (w : Word) : Bool := flag w 20
abbrev opHiOf (w : Word) : Bool := field w 23 2 == 0b10#2
abbrev opLoOf (w : Word) : Bool := flag w 21
abbrev loOf (w : Word) : BitVec 4 := field w 4 4
abbrev hiOf (w : Word) : Bool := flag w 21
abbrev rOf (w : Word) : Bool := flag w 22
abbrev pOf (w : Word) : Bool := flag w 24
abbrev uOf (w : Word) : Bool := flag w 23
abbrev bOf (w : Word) : Bool := flag w 22
abbrev wbOf (w : Word) : Bool := flag w 21
abbrev lOf (w : Word) : Bool := flag w 20
abbrev linkOf (w : Word) : Bool := flag w 24

end Sys2Proof
end

