-- ==== Sys2Proof/Syntax.lean ====
section
/-! DEFINITION. The instructions: one constructor for each row of spec/opcode_table.json, in the table's order, whose arguments
are the fields the table lists for that row ("source_fields"), raw, as the word holds them. `sf` is the table's `s` (bit
20) and `byte` its `b` (bit 22). Where the table lists a field that the row's match also fixes (`p`, `byte`, `wb`, `l` of
the transfers, `link` of the branches), the field stands here and `Instr.wf` (Sys2Proof/WellFormed.lean) asks for the
fixed value. -/

namespace Sys2Proof

/-- One decoded row of the opcode table. -/
inductive Instr where
  /-- Row 0: And, format DP-SI, match 0x00000000 mask 0x0FE00010 (R104). -/
  | andShiftImm (cond : CondField) (sf : Bool) (rn rd : RegField) (shiftImm : ShiftImmField) (shift : ShiftField) (rm : RegField)
  /-- Row 1: And, format DP-SR, match 0x00000010 mask 0x0FE00090 (R104). -/
  | andShiftReg (cond : CondField) (sf : Bool) (rn rd rs : RegField) (shift : ShiftField) (rm : RegField)
  /-- Row 2: And, format DP-I, match 0x02000000 mask 0x0FE00000 (R104). -/
  | andRotImm (cond : CondField) (sf : Bool) (rn rd : RegField) (rotate : RotateField) (imm8 : Imm8Field)
  /-- Row 3: Eor, format DP-SI, match 0x00200000 mask 0x0FE00010 (R105). -/
  | eorShiftImm (cond : CondField) (sf : Bool) (rn rd : RegField) (shiftImm : ShiftImmField) (shift : ShiftField) (rm : RegField)
  /-- Row 4: Eor, format DP-SR, match 0x00200010 mask 0x0FE00090 (R105). -/
  | eorShiftReg (cond : CondField) (sf : Bool) (rn rd rs : RegField) (shift : ShiftField) (rm : RegField)
  /-- Row 5: Eor, format DP-I, match 0x02200000 mask 0x0FE00000 (R105). -/
  | eorRotImm (cond : CondField) (sf : Bool) (rn rd : RegField) (rotate : RotateField) (imm8 : Imm8Field)
  /-- Row 6: Sub, format DP-SI, match 0x00400000 mask 0x0FE00010 (R106). -/
  | subShiftImm (cond : CondField) (sf : Bool) (rn rd : RegField) (shiftImm : ShiftImmField) (shift : ShiftField) (rm : RegField)
  /-- Row 7: Sub, format DP-SR, match 0x00400010 mask 0x0FE00090 (R106). -/
  | subShiftReg (cond : CondField) (sf : Bool) (rn rd rs : RegField) (shift : ShiftField) (rm : RegField)
  /-- Row 8: Sub, format DP-I, match 0x02400000 mask 0x0FE00000 (R106). -/
  | subRotImm (cond : CondField) (sf : Bool) (rn rd : RegField) (rotate : RotateField) (imm8 : Imm8Field)
  /-- Row 9: Rsb, format DP-SI, match 0x00600000 mask 0x0FE00010 (R107). -/
  | rsbShiftImm (cond : CondField) (sf : Bool) (rn rd : RegField) (shiftImm : ShiftImmField) (shift : ShiftField) (rm : RegField)
  /-- Row 10: Rsb, format DP-SR, match 0x00600010 mask 0x0FE00090 (R107). -/
  | rsbShiftReg (cond : CondField) (sf : Bool) (rn rd rs : RegField) (shift : ShiftField) (rm : RegField)
  /-- Row 11: Rsb, format DP-I, match 0x02600000 mask 0x0FE00000 (R107). -/
  | rsbRotImm (cond : CondField) (sf : Bool) (rn rd : RegField) (rotate : RotateField) (imm8 : Imm8Field)
  /-- Row 12: Add, format DP-SI, match 0x00800000 mask 0x0FE00010 (R108). -/
  | addShiftImm (cond : CondField) (sf : Bool) (rn rd : RegField) (shiftImm : ShiftImmField) (shift : ShiftField) (rm : RegField)
  /-- Row 13: Add, format DP-SR, match 0x00800010 mask 0x0FE00090 (R108). -/
  | addShiftReg (cond : CondField) (sf : Bool) (rn rd rs : RegField) (shift : ShiftField) (rm : RegField)
  /-- Row 14: Add, format DP-I, match 0x02800000 mask 0x0FE00000 (R108). -/
  | addRotImm (cond : CondField) (sf : Bool) (rn rd : RegField) (rotate : RotateField) (imm8 : Imm8Field)
  /-- Row 15: Adc, format DP-SI, match 0x00A00000 mask 0x0FE00010 (R109). -/
  | adcShiftImm (cond : CondField) (sf : Bool) (rn rd : RegField) (shiftImm : ShiftImmField) (shift : ShiftField) (rm : RegField)
  /-- Row 16: Adc, format DP-SR, match 0x00A00010 mask 0x0FE00090 (R109). -/
  | adcShiftReg (cond : CondField) (sf : Bool) (rn rd rs : RegField) (shift : ShiftField) (rm : RegField)
  /-- Row 17: Adc, format DP-I, match 0x02A00000 mask 0x0FE00000 (R109). -/
  | adcRotImm (cond : CondField) (sf : Bool) (rn rd : RegField) (rotate : RotateField) (imm8 : Imm8Field)
  /-- Row 18: Sbc, format DP-SI, match 0x00C00000 mask 0x0FE00010 (R110). -/
  | sbcShiftImm (cond : CondField) (sf : Bool) (rn rd : RegField) (shiftImm : ShiftImmField) (shift : ShiftField) (rm : RegField)
  /-- Row 19: Sbc, format DP-SR, match 0x00C00010 mask 0x0FE00090 (R110). -/
  | sbcShiftReg (cond : CondField) (sf : Bool) (rn rd rs : RegField) (shift : ShiftField) (rm : RegField)
  /-- Row 20: Sbc, format DP-I, match 0x02C00000 mask 0x0FE00000 (R110). -/
  | sbcRotImm (cond : CondField) (sf : Bool) (rn rd : RegField) (rotate : RotateField) (imm8 : Imm8Field)
  /-- Row 21: Rsc, format DP-SI, match 0x00E00000 mask 0x0FE00010 (R111). -/
  | rscShiftImm (cond : CondField) (sf : Bool) (rn rd : RegField) (shiftImm : ShiftImmField) (shift : ShiftField) (rm : RegField)
  /-- Row 22: Rsc, format DP-SR, match 0x00E00010 mask 0x0FE00090 (R111). -/
  | rscShiftReg (cond : CondField) (sf : Bool) (rn rd rs : RegField) (shift : ShiftField) (rm : RegField)
  /-- Row 23: Rsc, format DP-I, match 0x02E00000 mask 0x0FE00000 (R111). -/
  | rscRotImm (cond : CondField) (sf : Bool) (rn rd : RegField) (rotate : RotateField) (imm8 : Imm8Field)
  /-- Row 24: Tst, format DP-SI, match 0x01100000 mask 0x0FF00010 (R112). -/
  | tstShiftImm (cond : CondField) (rn : RegField) (shiftImm : ShiftImmField) (shift : ShiftField) (rm : RegField)
  /-- Row 25: Tst, format DP-SR, match 0x01100010 mask 0x0FF00090 (R112). -/
  | tstShiftReg (cond : CondField) (rn rs : RegField) (shift : ShiftField) (rm : RegField)
  /-- Row 26: Tst, format DP-I, match 0x03100000 mask 0x0FF00000 (R112). -/
  | tstRotImm (cond : CondField) (rn : RegField) (rotate : RotateField) (imm8 : Imm8Field)
  /-- Row 27: Teq, format DP-SI, match 0x01300000 mask 0x0FF00010 (R113). -/
  | teqShiftImm (cond : CondField) (rn : RegField) (shiftImm : ShiftImmField) (shift : ShiftField) (rm : RegField)
  /-- Row 28: Teq, format DP-SR, match 0x01300010 mask 0x0FF00090 (R113). -/
  | teqShiftReg (cond : CondField) (rn rs : RegField) (shift : ShiftField) (rm : RegField)
  /-- Row 29: Teq, format DP-I, match 0x03300000 mask 0x0FF00000 (R113). -/
  | teqRotImm (cond : CondField) (rn : RegField) (rotate : RotateField) (imm8 : Imm8Field)
  /-- Row 30: Cmp, format DP-SI, match 0x01500000 mask 0x0FF00010 (R114). -/
  | cmpShiftImm (cond : CondField) (rn : RegField) (shiftImm : ShiftImmField) (shift : ShiftField) (rm : RegField)
  /-- Row 31: Cmp, format DP-SR, match 0x01500010 mask 0x0FF00090 (R114). -/
  | cmpShiftReg (cond : CondField) (rn rs : RegField) (shift : ShiftField) (rm : RegField)
  /-- Row 32: Cmp, format DP-I, match 0x03500000 mask 0x0FF00000 (R114). -/
  | cmpRotImm (cond : CondField) (rn : RegField) (rotate : RotateField) (imm8 : Imm8Field)
  /-- Row 33: Cmn, format DP-SI, match 0x01700000 mask 0x0FF00010 (R115). -/
  | cmnShiftImm (cond : CondField) (rn : RegField) (shiftImm : ShiftImmField) (shift : ShiftField) (rm : RegField)
  /-- Row 34: Cmn, format DP-SR, match 0x01700010 mask 0x0FF00090 (R115). -/
  | cmnShiftReg (cond : CondField) (rn rs : RegField) (shift : ShiftField) (rm : RegField)
  /-- Row 35: Cmn, format DP-I, match 0x03700000 mask 0x0FF00000 (R115). -/
  | cmnRotImm (cond : CondField) (rn : RegField) (rotate : RotateField) (imm8 : Imm8Field)
  /-- Row 36: Orr, format DP-SI, match 0x01800000 mask 0x0FE00010 (R116). -/
  | orrShiftImm (cond : CondField) (sf : Bool) (rn rd : RegField) (shiftImm : ShiftImmField) (shift : ShiftField) (rm : RegField)
  /-- Row 37: Orr, format DP-SR, match 0x01800010 mask 0x0FE00090 (R116). -/
  | orrShiftReg (cond : CondField) (sf : Bool) (rn rd rs : RegField) (shift : ShiftField) (rm : RegField)
  /-- Row 38: Orr, format DP-I, match 0x03800000 mask 0x0FE00000 (R116). -/
  | orrRotImm (cond : CondField) (sf : Bool) (rn rd : RegField) (rotate : RotateField) (imm8 : Imm8Field)
  /-- Row 39: Mov, format DP-SI, match 0x01A00000 mask 0x0FE00010 (R117). -/
  | movShiftImm (cond : CondField) (sf : Bool) (rd : RegField) (shiftImm : ShiftImmField) (shift : ShiftField) (rm : RegField)
  /-- Row 40: Mov, format DP-SR, match 0x01A00010 mask 0x0FE00090 (R117). -/
  | movShiftReg (cond : CondField) (sf : Bool) (rd rs : RegField) (shift : ShiftField) (rm : RegField)
  /-- Row 41: Mov, format DP-I, match 0x03A00000 mask 0x0FE00000 (R117). -/
  | movRotImm (cond : CondField) (sf : Bool) (rd : RegField) (rotate : RotateField) (imm8 : Imm8Field)
  /-- Row 42: Bic, format DP-SI, match 0x01C00000 mask 0x0FE00010 (R118). -/
  | bicShiftImm (cond : CondField) (sf : Bool) (rn rd : RegField) (shiftImm : ShiftImmField) (shift : ShiftField) (rm : RegField)
  /-- Row 43: Bic, format DP-SR, match 0x01C00010 mask 0x0FE00090 (R118). -/
  | bicShiftReg (cond : CondField) (sf : Bool) (rn rd rs : RegField) (shift : ShiftField) (rm : RegField)
  /-- Row 44: Bic, format DP-I, match 0x03C00000 mask 0x0FE00000 (R118). -/
  | bicRotImm (cond : CondField) (sf : Bool) (rn rd : RegField) (rotate : RotateField) (imm8 : Imm8Field)
  /-- Row 45: Mvn, format DP-SI, match 0x01E00000 mask 0x0FE00010 (R119). -/
  | mvnShiftImm (cond : CondField) (sf : Bool) (rd : RegField) (shiftImm : ShiftImmField) (shift : ShiftField) (rm : RegField)
  /-- Row 46: Mvn, format DP-SR, match 0x01E00010 mask 0x0FE00090 (R119). -/
  | mvnShiftReg (cond : CondField) (sf : Bool) (rd rs : RegField) (shift : ShiftField) (rm : RegField)
  /-- Row 47: Mvn, format DP-I, match 0x03E00000 mask 0x0FE00000 (R119). -/
  | mvnRotImm (cond : CondField) (sf : Bool) (rd : RegField) (rotate : RotateField) (imm8 : Imm8Field)
  /-- Row 48: Mrs, format MRS, match 0x01000000 mask 0x0FB000F0 (R141). -/
  | mrs (cond : CondField) (r : Bool) (rd : RegField)
  /-- Row 49: Msr, format MSR-R, match 0x01200000 mask 0x0FB000F0 (R142). -/
  | msr (cond : CondField) (r : Bool) (mask : MaskField) (rm : RegField)
  /-- Row 50: Bx, format BX, match 0x01200010 mask 0x0FB000F0 (R143). -/
  | bx (cond : CondField) (rm : RegField)
  /-- Row 51: Undefined, format MISC-UNDEF, match 0x01000010 mask 0x0FB000F0 (R144). -/
  | undefMiscHi0Lo1 (cond : CondField)
  /-- Row 52: Undefined, format MISC-UNDEF, match 0x01000020 mask 0x0FB000F0 (R144). -/
  | undefMiscHi0Lo2 (cond : CondField)
  /-- Row 53: Undefined, format MISC-UNDEF, match 0x01000030 mask 0x0FB000F0 (R144). -/
  | undefMiscHi0Lo3 (cond : CondField)
  /-- Row 54: Undefined, format MISC-UNDEF, match 0x01000040 mask 0x0FB000F0 (R144). -/
  | undefMiscHi0Lo4 (cond : CondField)
  /-- Row 55: Undefined, format MISC-UNDEF, match 0x01000050 mask 0x0FB000F0 (R144). -/
  | undefMiscHi0Lo5 (cond : CondField)
  /-- Row 56: Undefined, format MISC-UNDEF, match 0x01000060 mask 0x0FB000F0 (R144). -/
  | undefMiscHi0Lo6 (cond : CondField)
  /-- Row 57: Undefined, format MISC-UNDEF, match 0x01000070 mask 0x0FB000F0 (R144). -/
  | undefMiscHi0Lo7 (cond : CondField)
  /-- Row 58: Undefined, format MISC-UNDEF, match 0x01000080 mask 0x0FB000F0 (R144). -/
  | undefMiscHi0Lo8 (cond : CondField)
  /-- Row 59: Undefined, format MISC-UNDEF, match 0x010000A0 mask 0x0FB000F0 (R144). -/
  | undefMiscHi0LoA (cond : CondField)
  /-- Row 60: Undefined, format MISC-UNDEF, match 0x010000C0 mask 0x0FB000F0 (R144). -/
  | undefMiscHi0LoC (cond : CondField)
  /-- Row 61: Undefined, format MISC-UNDEF, match 0x010000E0 mask 0x0FB000F0 (R144). -/
  | undefMiscHi0LoE (cond : CondField)
  /-- Row 62: Undefined, format MISC-UNDEF, match 0x01200020 mask 0x0FB000F0 (R144). -/
  | undefMiscHi1Lo2 (cond : CondField)
  /-- Row 63: Undefined, format MISC-UNDEF, match 0x01200030 mask 0x0FB000F0 (R144). -/
  | undefMiscHi1Lo3 (cond : CondField)
  /-- Row 64: Undefined, format MISC-UNDEF, match 0x01200040 mask 0x0FB000F0 (R144). -/
  | undefMiscHi1Lo4 (cond : CondField)
  /-- Row 65: Undefined, format MISC-UNDEF, match 0x01200050 mask 0x0FB000F0 (R144). -/
  | undefMiscHi1Lo5 (cond : CondField)
  /-- Row 66: Undefined, format MISC-UNDEF, match 0x01200060 mask 0x0FB000F0 (R144). -/
  | undefMiscHi1Lo6 (cond : CondField)
  /-- Row 67: Undefined, format MISC-UNDEF, match 0x01200070 mask 0x0FB000F0 (R144). -/
  | undefMiscHi1Lo7 (cond : CondField)
  /-- Row 68: Undefined, format MISC-UNDEF, match 0x01200080 mask 0x0FB000F0 (R144). -/
  | undefMiscHi1Lo8 (cond : CondField)
  /-- Row 69: Undefined, format MISC-UNDEF, match 0x012000A0 mask 0x0FB000F0 (R144). -/
  | undefMiscHi1LoA (cond : CondField)
  /-- Row 70: Undefined, format MISC-UNDEF, match 0x012000C0 mask 0x0FB000F0 (R144). -/
  | undefMiscHi1LoC (cond : CondField)
  /-- Row 71: Undefined, format MISC-UNDEF, match 0x012000E0 mask 0x0FB000F0 (R144). -/
  | undefMiscHi1LoE (cond : CondField)
  /-- Row 72: MsrImm, format MSR-I, match 0x03200000 mask 0x0FB00000 (R145). -/
  | msrImm (cond : CondField) (r : Bool) (mask : MaskField) (rotate : RotateField) (imm8 : Imm8Field)
  /-- Row 73: Undefined, format M1-UNDEF, match 0x03000000 mask 0x0FB00000 (R201). -/
  | undefMajor1Band (cond : CondField)
  /-- Row 74: Ldr, format SDT-I, match 0x05100000 mask 0x0F500000 (R165). -/
  | ldrImmP1 (cond : CondField) (p u byte wb l : Bool) (rn rd : RegField) (imm12 : Imm12Field)
  /-- Row 75: Ldr, format SDT-I, match 0x04100000 mask 0x0F700000 (R165). -/
  | ldrImmP0 (cond : CondField) (p u byte wb l : Bool) (rn rd : RegField) (imm12 : Imm12Field)
  /-- Row 76: Ldrt, format SDT-I, match 0x04300000 mask 0x0F700000 (R169). -/
  | ldrtImm (cond : CondField) (p u byte wb l : Bool) (rn rd : RegField) (imm12 : Imm12Field)
  /-- Row 77: Str, format SDT-I, match 0x05000000 mask 0x0F500000 (R166). -/
  | strImmP1 (cond : CondField) (p u byte wb l : Bool) (rn rd : RegField) (imm12 : Imm12Field)
  /-- Row 78: Str, format SDT-I, match 0x04000000 mask 0x0F700000 (R166). -/
  | strImmP0 (cond : CondField) (p u byte wb l : Bool) (rn rd : RegField) (imm12 : Imm12Field)
  /-- Row 79: Strt, format SDT-I, match 0x04200000 mask 0x0F700000 (R170). -/
  | strtImm (cond : CondField) (p u byte wb l : Bool) (rn rd : RegField) (imm12 : Imm12Field)
  /-- Row 80: Ldrb, format SDT-I, match 0x05500000 mask 0x0F500000 (R167). -/
  | ldrbImmP1 (cond : CondField) (p u byte wb l : Bool) (rn rd : RegField) (imm12 : Imm12Field)
  /-- Row 81: Ldrb, format SDT-I, match 0x04500000 mask 0x0F700000 (R167). -/
  | ldrbImmP0 (cond : CondField) (p u byte wb l : Bool) (rn rd : RegField) (imm12 : Imm12Field)
  /-- Row 82: Ldrbt, format SDT-I, match 0x04700000 mask 0x0F700000 (R171). -/
  | ldrbtImm (cond : CondField) (p u byte wb l : Bool) (rn rd : RegField) (imm12 : Imm12Field)
  /-- Row 83: Strb, format SDT-I, match 0x05400000 mask 0x0F500000 (R168). -/
  | strbImmP1 (cond : CondField) (p u byte wb l : Bool) (rn rd : RegField) (imm12 : Imm12Field)
  /-- Row 84: Strb, format SDT-I, match 0x04400000 mask 0x0F700000 (R168). -/
  | strbImmP0 (cond : CondField) (p u byte wb l : Bool) (rn rd : RegField) (imm12 : Imm12Field)
  /-- Row 85: Strbt, format SDT-I, match 0x04600000 mask 0x0F700000 (R172). -/
  | strbtImm (cond : CondField) (p u byte wb l : Bool) (rn rd : RegField) (imm12 : Imm12Field)
  /-- Row 86: Ldr, format SDT-R, match 0x07100000 mask 0x0F500010 (R165). -/
  | ldrRegP1 (cond : CondField) (p u byte wb l : Bool) (rn rd : RegField) (shiftImm : ShiftImmField) (shift : ShiftField) (rm : RegField)
  /-- Row 87: Ldr, format SDT-R, match 0x06100000 mask 0x0F700010 (R165). -/
  | ldrRegP0 (cond : CondField) (p u byte wb l : Bool) (rn rd : RegField) (shiftImm : ShiftImmField) (shift : ShiftField) (rm : RegField)
  /-- Row 88: Ldrt, format SDT-R, match 0x06300000 mask 0x0F700010 (R169). -/
  | ldrtReg (cond : CondField) (p u byte wb l : Bool) (rn rd : RegField) (shiftImm : ShiftImmField) (shift : ShiftField) (rm : RegField)
  /-- Row 89: Str, format SDT-R, match 0x07000000 mask 0x0F500010 (R166). -/
  | strRegP1 (cond : CondField) (p u byte wb l : Bool) (rn rd : RegField) (shiftImm : ShiftImmField) (shift : ShiftField) (rm : RegField)
  /-- Row 90: Str, format SDT-R, match 0x06000000 mask 0x0F700010 (R166). -/
  | strRegP0 (cond : CondField) (p u byte wb l : Bool) (rn rd : RegField) (shiftImm : ShiftImmField) (shift : ShiftField) (rm : RegField)
  /-- Row 91: Strt, format SDT-R, match 0x06200000 mask 0x0F700010 (R170). -/
  | strtReg (cond : CondField) (p u byte wb l : Bool) (rn rd : RegField) (shiftImm : ShiftImmField) (shift : ShiftField) (rm : RegField)
  /-- Row 92: Ldrb, format SDT-R, match 0x07500000 mask 0x0F500010 (R167). -/
  | ldrbRegP1 (cond : CondField) (p u byte wb l : Bool) (rn rd : RegField) (shiftImm : ShiftImmField) (shift : ShiftField) (rm : RegField)
  /-- Row 93: Ldrb, format SDT-R, match 0x06500000 mask 0x0F700010 (R167). -/
  | ldrbRegP0 (cond : CondField) (p u byte wb l : Bool) (rn rd : RegField) (shiftImm : ShiftImmField) (shift : ShiftField) (rm : RegField)
  /-- Row 94: Ldrbt, format SDT-R, match 0x06700000 mask 0x0F700010 (R171). -/
  | ldrbtReg (cond : CondField) (p u byte wb l : Bool) (rn rd : RegField) (shiftImm : ShiftImmField) (shift : ShiftField) (rm : RegField)
  /-- Row 95: Strb, format SDT-R, match 0x07400000 mask 0x0F500010 (R168). -/
  | strbRegP1 (cond : CondField) (p u byte wb l : Bool) (rn rd : RegField) (shiftImm : ShiftImmField) (shift : ShiftField) (rm : RegField)
  /-- Row 96: Strb, format SDT-R, match 0x06400000 mask 0x0F700010 (R168). -/
  | strbRegP0 (cond : CondField) (p u byte wb l : Bool) (rn rd : RegField) (shiftImm : ShiftImmField) (shift : ShiftField) (rm : RegField)
  /-- Row 97: Strbt, format SDT-R, match 0x06600000 mask 0x0F700010 (R172). -/
  | strbtReg (cond : CondField) (p u byte wb l : Bool) (rn rd : RegField) (shiftImm : ShiftImmField) (shift : ShiftField) (rm : RegField)
  /-- Row 98: Undefined, format M3-UNDEF, match 0x06000010 mask 0x0E000010 (R201). -/
  | undefMajor3Bit4 (cond : CondField)
  /-- Row 99: B, format BR, match 0x0A000000 mask 0x0F000000 (R190). -/
  | b (cond : CondField) (link : Bool) (offset24 : Offset24Field)
  /-- Row 100: B, format BR, match 0x0B000000 mask 0x0F000000 (R191). -/
  | bl (cond : CondField) (link : Bool) (offset24 : Offset24Field)
  /-- Row 101: Undefined, format MAJ-UNDEF, match 0x08000000 mask 0x0E000000 (R203). -/
  | undefMajor4 (cond : CondField)
  /-- Row 102: Undefined, format MAJ-UNDEF, match 0x0C000000 mask 0x0E000000 (R203). -/
  | undefMajor6 (cond : CondField)
  /-- Row 103: Undefined, format MAJ-UNDEF, match 0x0E000000 mask 0x0E000000 (R203). -/
  | undefMajor7 (cond : CondField)
  /-- Row 104: Unresolved(MultiplyExtendedLoadStore), format UNRESOLVED, match 0x00000090 mask 0x0E000090 (R202). -/
  | unresolvedMultiplyExtendedLoadStore (cond : CondField)
  deriving DecidableEq, Repr

end Sys2Proof
end

