-- ==== Sys2Proof/Decode.lean ====
section
/-! DEFINITION. The decoder, total on 32-bit words: it follows the decode tree of spec/30_encoding.md (R67 to R69) and of
spec/41_misc_psr.md (R140) down to one row of the opcode table, and takes that row's fields out of the word. A word the
source leaves without decode logic is decoded to the table's row for it, `unresolvedMultiplyExtendedLoadStore`, which the
machine refuses by name. After the decoder: the encoder, written from the format tables R80 to R89; and the opcode table
itself as data. -/

namespace Sys2Proof

/-! ## The decoder -/

/-- Major 0 with operand-2 a register shifted by an immediate (R68 arm 5, R72, format DP-SI): the row by ALU opcode (R70). -/
def decodeDpShiftImm (w : Word) : Instr :=
  match field w 23 2, field w 21 2 with
  | 0b00#2, 0b00#2 => .andShiftImm (condOf w) (sOf w) (rnOf w) (rdOf w) (shiftImmOf w) (shiftOf w) (rmOf w)
  | 0b00#2, 0b01#2 => .eorShiftImm (condOf w) (sOf w) (rnOf w) (rdOf w) (shiftImmOf w) (shiftOf w) (rmOf w)
  | 0b00#2, 0b10#2 => .subShiftImm (condOf w) (sOf w) (rnOf w) (rdOf w) (shiftImmOf w) (shiftOf w) (rmOf w)
  | 0b00#2, 0b11#2 => .rsbShiftImm (condOf w) (sOf w) (rnOf w) (rdOf w) (shiftImmOf w) (shiftOf w) (rmOf w)
  | 0b01#2, 0b00#2 => .addShiftImm (condOf w) (sOf w) (rnOf w) (rdOf w) (shiftImmOf w) (shiftOf w) (rmOf w)
  | 0b01#2, 0b01#2 => .adcShiftImm (condOf w) (sOf w) (rnOf w) (rdOf w) (shiftImmOf w) (shiftOf w) (rmOf w)
  | 0b01#2, 0b10#2 => .sbcShiftImm (condOf w) (sOf w) (rnOf w) (rdOf w) (shiftImmOf w) (shiftOf w) (rmOf w)
  | 0b01#2, 0b11#2 => .rscShiftImm (condOf w) (sOf w) (rnOf w) (rdOf w) (shiftImmOf w) (shiftOf w) (rmOf w)
  | 0b10#2, 0b00#2 => .tstShiftImm (condOf w) (rnOf w) (shiftImmOf w) (shiftOf w) (rmOf w)
  | 0b10#2, 0b01#2 => .teqShiftImm (condOf w) (rnOf w) (shiftImmOf w) (shiftOf w) (rmOf w)
  | 0b10#2, 0b10#2 => .cmpShiftImm (condOf w) (rnOf w) (shiftImmOf w) (shiftOf w) (rmOf w)
  | 0b10#2, 0b11#2 => .cmnShiftImm (condOf w) (rnOf w) (shiftImmOf w) (shiftOf w) (rmOf w)
  | 0b11#2, 0b00#2 => .orrShiftImm (condOf w) (sOf w) (rnOf w) (rdOf w) (shiftImmOf w) (shiftOf w) (rmOf w)
  | 0b11#2, 0b01#2 => .movShiftImm (condOf w) (sOf w) (rdOf w) (shiftImmOf w) (shiftOf w) (rmOf w)
  | 0b11#2, 0b10#2 => .bicShiftImm (condOf w) (sOf w) (rnOf w) (rdOf w) (shiftImmOf w) (shiftOf w) (rmOf w)
  | 0b11#2, 0b11#2 => .mvnShiftImm (condOf w) (sOf w) (rdOf w) (shiftImmOf w) (shiftOf w) (rmOf w)

/-- Major 0 with operand-2 a register shifted by a register (R68 arm 3, R73, format DP-SR): the row by ALU opcode (R70). -/
def decodeDpShiftReg (w : Word) : Instr :=
  match field w 23 2, field w 21 2 with
  | 0b00#2, 0b00#2 => .andShiftReg (condOf w) (sOf w) (rnOf w) (rdOf w) (rsOf w) (shiftOf w) (rmOf w)
  | 0b00#2, 0b01#2 => .eorShiftReg (condOf w) (sOf w) (rnOf w) (rdOf w) (rsOf w) (shiftOf w) (rmOf w)
  | 0b00#2, 0b10#2 => .subShiftReg (condOf w) (sOf w) (rnOf w) (rdOf w) (rsOf w) (shiftOf w) (rmOf w)
  | 0b00#2, 0b11#2 => .rsbShiftReg (condOf w) (sOf w) (rnOf w) (rdOf w) (rsOf w) (shiftOf w) (rmOf w)
  | 0b01#2, 0b00#2 => .addShiftReg (condOf w) (sOf w) (rnOf w) (rdOf w) (rsOf w) (shiftOf w) (rmOf w)
  | 0b01#2, 0b01#2 => .adcShiftReg (condOf w) (sOf w) (rnOf w) (rdOf w) (rsOf w) (shiftOf w) (rmOf w)
  | 0b01#2, 0b10#2 => .sbcShiftReg (condOf w) (sOf w) (rnOf w) (rdOf w) (rsOf w) (shiftOf w) (rmOf w)
  | 0b01#2, 0b11#2 => .rscShiftReg (condOf w) (sOf w) (rnOf w) (rdOf w) (rsOf w) (shiftOf w) (rmOf w)
  | 0b10#2, 0b00#2 => .tstShiftReg (condOf w) (rnOf w) (rsOf w) (shiftOf w) (rmOf w)
  | 0b10#2, 0b01#2 => .teqShiftReg (condOf w) (rnOf w) (rsOf w) (shiftOf w) (rmOf w)
  | 0b10#2, 0b10#2 => .cmpShiftReg (condOf w) (rnOf w) (rsOf w) (shiftOf w) (rmOf w)
  | 0b10#2, 0b11#2 => .cmnShiftReg (condOf w) (rnOf w) (rsOf w) (shiftOf w) (rmOf w)
  | 0b11#2, 0b00#2 => .orrShiftReg (condOf w) (sOf w) (rnOf w) (rdOf w) (rsOf w) (shiftOf w) (rmOf w)
  | 0b11#2, 0b01#2 => .movShiftReg (condOf w) (sOf w) (rdOf w) (rsOf w) (shiftOf w) (rmOf w)
  | 0b11#2, 0b10#2 => .bicShiftReg (condOf w) (sOf w) (rnOf w) (rdOf w) (rsOf w) (shiftOf w) (rmOf w)
  | 0b11#2, 0b11#2 => .mvnShiftReg (condOf w) (sOf w) (rdOf w) (rsOf w) (shiftOf w) (rmOf w)

/-- Major 1 with a rotated immediate (R69 arm 3, R71, format DP-I): the row by ALU opcode (R70). -/
def decodeDpRotImm (w : Word) : Instr :=
  match field w 23 2, field w 21 2 with
  | 0b00#2, 0b00#2 => .andRotImm (condOf w) (sOf w) (rnOf w) (rdOf w) (rotateOf w) (imm8Of w)
  | 0b00#2, 0b01#2 => .eorRotImm (condOf w) (sOf w) (rnOf w) (rdOf w) (rotateOf w) (imm8Of w)
  | 0b00#2, 0b10#2 => .subRotImm (condOf w) (sOf w) (rnOf w) (rdOf w) (rotateOf w) (imm8Of w)
  | 0b00#2, 0b11#2 => .rsbRotImm (condOf w) (sOf w) (rnOf w) (rdOf w) (rotateOf w) (imm8Of w)
  | 0b01#2, 0b00#2 => .addRotImm (condOf w) (sOf w) (rnOf w) (rdOf w) (rotateOf w) (imm8Of w)
  | 0b01#2, 0b01#2 => .adcRotImm (condOf w) (sOf w) (rnOf w) (rdOf w) (rotateOf w) (imm8Of w)
  | 0b01#2, 0b10#2 => .sbcRotImm (condOf w) (sOf w) (rnOf w) (rdOf w) (rotateOf w) (imm8Of w)
  | 0b01#2, 0b11#2 => .rscRotImm (condOf w) (sOf w) (rnOf w) (rdOf w) (rotateOf w) (imm8Of w)
  | 0b10#2, 0b00#2 => .tstRotImm (condOf w) (rnOf w) (rotateOf w) (imm8Of w)
  | 0b10#2, 0b01#2 => .teqRotImm (condOf w) (rnOf w) (rotateOf w) (imm8Of w)
  | 0b10#2, 0b10#2 => .cmpRotImm (condOf w) (rnOf w) (rotateOf w) (imm8Of w)
  | 0b10#2, 0b11#2 => .cmnRotImm (condOf w) (rnOf w) (rotateOf w) (imm8Of w)
  | 0b11#2, 0b00#2 => .orrRotImm (condOf w) (sOf w) (rnOf w) (rdOf w) (rotateOf w) (imm8Of w)
  | 0b11#2, 0b01#2 => .movRotImm (condOf w) (sOf w) (rdOf w) (rotateOf w) (imm8Of w)
  | 0b11#2, 0b10#2 => .bicRotImm (condOf w) (sOf w) (rnOf w) (rdOf w) (rotateOf w) (imm8Of w)
  | 0b11#2, 0b11#2 => .mvnRotImm (condOf w) (sOf w) (rdOf w) (rotateOf w) (imm8Of w)

/-- The miscellaneous space (R140), by `hi` and the two halves of `lo`. The values of `lo` with bits 4 and 7 set are no word of this space (R68
tries `fo ∧ se` first); the row such a word has is the unresolved one. -/
def decodeMisc (w : Word) : Instr :=
  match hiOf w, field w 6 2, field w 4 2 with
  | false, 0b00#2, 0b00#2 => .mrs (condOf w) (rOf w) (rdOf w)
  | false, 0b00#2, 0b01#2 => .undefMiscHi0Lo1 (condOf w)
  | false, 0b00#2, 0b10#2 => .undefMiscHi0Lo2 (condOf w)
  | false, 0b00#2, 0b11#2 => .undefMiscHi0Lo3 (condOf w)
  | false, 0b01#2, 0b00#2 => .undefMiscHi0Lo4 (condOf w)
  | false, 0b01#2, 0b01#2 => .undefMiscHi0Lo5 (condOf w)
  | false, 0b01#2, 0b10#2 => .undefMiscHi0Lo6 (condOf w)
  | false, 0b01#2, 0b11#2 => .undefMiscHi0Lo7 (condOf w)
  | false, 0b10#2, 0b00#2 => .undefMiscHi0Lo8 (condOf w)
  | false, 0b10#2, 0b01#2 => .unresolvedMultiplyExtendedLoadStore (condOf w)
  | false, 0b10#2, 0b10#2 => .undefMiscHi0LoA (condOf w)
  | false, 0b10#2, 0b11#2 => .unresolvedMultiplyExtendedLoadStore (condOf w)
  | false, 0b11#2, 0b00#2 => .undefMiscHi0LoC (condOf w)
  | false, 0b11#2, 0b01#2 => .unresolvedMultiplyExtendedLoadStore (condOf w)
  | false, 0b11#2, 0b10#2 => .undefMiscHi0LoE (condOf w)
  | false, 0b11#2, 0b11#2 => .unresolvedMultiplyExtendedLoadStore (condOf w)
  | true, 0b00#2, 0b00#2 => .msr (condOf w) (rOf w) (maskFieldOf w) (rmOf w)
  | true, 0b00#2, 0b01#2 => .bx (condOf w) (rmOf w)
  | true, 0b00#2, 0b10#2 => .undefMiscHi1Lo2 (condOf w)
  | true, 0b00#2, 0b11#2 => .undefMiscHi1Lo3 (condOf w)
  | true, 0b01#2, 0b00#2 => .undefMiscHi1Lo4 (condOf w)
  | true, 0b01#2, 0b01#2 => .undefMiscHi1Lo5 (condOf w)
  | true, 0b01#2, 0b10#2 => .undefMiscHi1Lo6 (condOf w)
  | true, 0b01#2, 0b11#2 => .undefMiscHi1Lo7 (condOf w)
  | true, 0b10#2, 0b00#2 => .undefMiscHi1Lo8 (condOf w)
  | true, 0b10#2, 0b01#2 => .unresolvedMultiplyExtendedLoadStore (condOf w)
  | true, 0b10#2, 0b10#2 => .undefMiscHi1LoA (condOf w)
  | true, 0b10#2, 0b11#2 => .unresolvedMultiplyExtendedLoadStore (condOf w)
  | true, 0b11#2, 0b00#2 => .undefMiscHi1LoC (condOf w)
  | true, 0b11#2, 0b01#2 => .unresolvedMultiplyExtendedLoadStore (condOf w)
  | true, 0b11#2, 0b10#2 => .undefMiscHi1LoE (condOf w)
  | true, 0b11#2, 0b11#2 => .unresolvedMultiplyExtendedLoadStore (condOf w)

/-- Major 0 (R68): the first match of five predicates. -/
def decodeMajor0 (w : Word) : Instr :=
  if foOf w && seOf w then .unresolvedMultiplyExtendedLoadStore (condOf w)
  else if foOf w && !seOf w && !sOf w && opHiOf w then decodeMisc w
  else if foOf w && !seOf w then decodeDpShiftReg w
  else if !foOf w && !sOf w && opHiOf w then decodeMisc w
  else decodeDpShiftImm w

/-- Major 1 (R69): the first match of three predicates, the middle one as conflict C1 and decision D6 place it. -/
def decodeMajor1 (w : Word) : Instr :=
  if !sOf w && opHiOf w && opLoOf w then .msrImm (condOf w) (rOf w) (maskFieldOf w) (rotateOf w) (imm8Of w)
  else if !sOf w && opHiOf w then .undefMajor1Band (condOf w)
  else decodeDpRotImm w

/-- Major 2, single data transfer with an immediate offset (R160, format SDT-I): the row by `p`, `wb`, `b` and `l`. -/
def decodeTransferImm (w : Word) : Instr :=
  match pOf w, wbOf w, bOf w, lOf w with
  | true, _, false, true => .ldrImmP1 (condOf w) (pOf w) (uOf w) (bOf w) (wbOf w) (lOf w) (rnOf w) (rdOf w) (imm12Of w)
  | true, _, false, false => .strImmP1 (condOf w) (pOf w) (uOf w) (bOf w) (wbOf w) (lOf w) (rnOf w) (rdOf w) (imm12Of w)
  | true, _, true, true => .ldrbImmP1 (condOf w) (pOf w) (uOf w) (bOf w) (wbOf w) (lOf w) (rnOf w) (rdOf w) (imm12Of w)
  | true, _, true, false => .strbImmP1 (condOf w) (pOf w) (uOf w) (bOf w) (wbOf w) (lOf w) (rnOf w) (rdOf w) (imm12Of w)
  | false, false, false, true => .ldrImmP0 (condOf w) (pOf w) (uOf w) (bOf w) (wbOf w) (lOf w) (rnOf w) (rdOf w) (imm12Of w)
  | false, false, false, false => .strImmP0 (condOf w) (pOf w) (uOf w) (bOf w) (wbOf w) (lOf w) (rnOf w) (rdOf w) (imm12Of w)
  | false, false, true, true => .ldrbImmP0 (condOf w) (pOf w) (uOf w) (bOf w) (wbOf w) (lOf w) (rnOf w) (rdOf w) (imm12Of w)
  | false, false, true, false => .strbImmP0 (condOf w) (pOf w) (uOf w) (bOf w) (wbOf w) (lOf w) (rnOf w) (rdOf w) (imm12Of w)
  | false, true, false, true => .ldrtImm (condOf w) (pOf w) (uOf w) (bOf w) (wbOf w) (lOf w) (rnOf w) (rdOf w) (imm12Of w)
  | false, true, false, false => .strtImm (condOf w) (pOf w) (uOf w) (bOf w) (wbOf w) (lOf w) (rnOf w) (rdOf w) (imm12Of w)
  | false, true, true, true => .ldrbtImm (condOf w) (pOf w) (uOf w) (bOf w) (wbOf w) (lOf w) (rnOf w) (rdOf w) (imm12Of w)
  | false, true, true, false => .strbtImm (condOf w) (pOf w) (uOf w) (bOf w) (wbOf w) (lOf w) (rnOf w) (rdOf w) (imm12Of w)

/-- Major 3 with bit 4 clear, single data transfer with a register offset (R160, format SDT-R). -/
def decodeTransferReg (w : Word) : Instr :=
  match pOf w, wbOf w, bOf w, lOf w with
  | true, _, false, true => .ldrRegP1 (condOf w) (pOf w) (uOf w) (bOf w) (wbOf w) (lOf w) (rnOf w) (rdOf w) (shiftImmOf w) (shiftOf w) (rmOf w)
  | true, _, false, false => .strRegP1 (condOf w) (pOf w) (uOf w) (bOf w) (wbOf w) (lOf w) (rnOf w) (rdOf w) (shiftImmOf w) (shiftOf w) (rmOf w)
  | true, _, true, true => .ldrbRegP1 (condOf w) (pOf w) (uOf w) (bOf w) (wbOf w) (lOf w) (rnOf w) (rdOf w) (shiftImmOf w) (shiftOf w) (rmOf w)
  | true, _, true, false => .strbRegP1 (condOf w) (pOf w) (uOf w) (bOf w) (wbOf w) (lOf w) (rnOf w) (rdOf w) (shiftImmOf w) (shiftOf w) (rmOf w)
  | false, false, false, true => .ldrRegP0 (condOf w) (pOf w) (uOf w) (bOf w) (wbOf w) (lOf w) (rnOf w) (rdOf w) (shiftImmOf w) (shiftOf w) (rmOf w)
  | false, false, false, false => .strRegP0 (condOf w) (pOf w) (uOf w) (bOf w) (wbOf w) (lOf w) (rnOf w) (rdOf w) (shiftImmOf w) (shiftOf w) (rmOf w)
  | false, false, true, true => .ldrbRegP0 (condOf w) (pOf w) (uOf w) (bOf w) (wbOf w) (lOf w) (rnOf w) (rdOf w) (shiftImmOf w) (shiftOf w) (rmOf w)
  | false, false, true, false => .strbRegP0 (condOf w) (pOf w) (uOf w) (bOf w) (wbOf w) (lOf w) (rnOf w) (rdOf w) (shiftImmOf w) (shiftOf w) (rmOf w)
  | false, true, false, true => .ldrtReg (condOf w) (pOf w) (uOf w) (bOf w) (wbOf w) (lOf w) (rnOf w) (rdOf w) (shiftImmOf w) (shiftOf w) (rmOf w)
  | false, true, false, false => .strtReg (condOf w) (pOf w) (uOf w) (bOf w) (wbOf w) (lOf w) (rnOf w) (rdOf w) (shiftImmOf w) (shiftOf w) (rmOf w)
  | false, true, true, true => .ldrbtReg (condOf w) (pOf w) (uOf w) (bOf w) (wbOf w) (lOf w) (rnOf w) (rdOf w) (shiftImmOf w) (shiftOf w) (rmOf w)
  | false, true, true, false => .strbtReg (condOf w) (pOf w) (uOf w) (bOf w) (wbOf w) (lOf w) (rnOf w) (rdOf w) (shiftImmOf w) (shiftOf w) (rmOf w)

/-- Major 5 (format BR): branch or branch with link. -/
def decodeBranch (w : Word) : Instr :=
  if linkOf w then .bl (condOf w) (linkOf w) (offset24Of w) else .b (condOf w) (linkOf w) (offset24Of w)

/-- R67: the row of a word, by its major opcode. -/
def decode (w : Word) : Instr :=
  match majorOf w with
  | 0#3 => decodeMajor0 w
  | 1#3 => decodeMajor1 w
  | 2#3 => decodeTransferImm w
  | 3#3 => if flag w 4 then .undefMajor3Bit4 (condOf w) else decodeTransferReg w
  | 4#3 => .undefMajor4 (condOf w)
  | 5#3 => decodeBranch w
  | 6#3 => .undefMajor6 (condOf w)
  | 7#3 => .undefMajor7 (condOf w)

/-- Why a presented number is not an instruction of this block: the port takes one 32-bit word and nothing else (R21, R60). -/
inductive DecodeReject where
  /-- More bits than the one instruction length. -/
  | longerThanOneWord
  /-- The number has a bit above the length it was given with. -/
  | bitAboveLength
  deriving DecidableEq, Repr

/-- The decoder on a number given with its length in bits; the bits above the length are zero. -/
def decodeNumber (nbits w : Nat) : Except DecodeReject Instr :=
  if Config.instructionBits < nbits then .error .longerThanOneWord
  else if 2 ^ nbits ≤ w then .error .bitAboveLength
  else .ok (decode (BitVec.ofNat 32 w))

/-- The instruction the decoder reads from a word whose bits are numbered as spec/opcode_table.json numbers them. Every row of
that table is one 32-bit word, so the word is the number itself. -/
def decodeTableWord (nbits w : Nat) : Option Instr := (decodeNumber nbits w).toOption

/-! ## The encoder

Each format is the row of cells of its table in spec/30_encoding.md, from bit 31 down. A bit that the table marks `x` is
ignored by the block (R91) and is encoded as zero (DESIGN CHOICE; notes/assumptions/10.md). -/

/-- R80. -/
def formatDpShiftImm (cond : CondField) (opcode : OpcodeField) (sf : Bool) (rn rd : RegField) (shiftImm : ShiftImmField)
    (shift : ShiftField) (rm : RegField) : Word :=
  cond ++ 0b000#3 ++ opcode ++ BitVec.ofBool sf ++ rn ++ rd ++ shiftImm ++ shift ++ 0b0#1 ++ rm

/-- R81. -/
def formatDpShiftReg (cond : CondField) (opcode : OpcodeField) (sf : Bool) (rn rd rs : RegField)
    (shift : ShiftField) (rm : RegField) : Word :=
  cond ++ 0b000#3 ++ opcode ++ BitVec.ofBool sf ++ rn ++ rd ++ rs ++ 0b0#1 ++ shift ++ 0b1#1 ++ rm

/-- R82. -/
def formatDpRotImm (cond : CondField) (opcode : OpcodeField) (sf : Bool) (rn rd : RegField) (rotate : RotateField)
    (imm8 : Imm8Field) : Word :=
  cond ++ 0b001#3 ++ opcode ++ BitVec.ofBool sf ++ rn ++ rd ++ rotate ++ imm8

/-- R83 to R85 and R140: the miscellaneous space, with `hi` = bit 21 and `lo` = bits 7-4. -/
def formatMisc (cond : CondField) (r hi : Bool) (bits19to16 bits15to12 bits11to8 lo bits3to0 : BitVec 4) : Word :=
  cond ++ 0b000#3 ++ 0b10#2 ++ BitVec.ofBool r ++ BitVec.ofBool hi ++ 0b0#1 ++ bits19to16 ++ bits15to12 ++ bits11to8 ++ lo ++
    bits3to0

/-- R86, and with bit 21 clear the undefined band of R69. -/
def formatMajor1Band (cond : CondField) (r opLo : Bool) (mask bits15to12 rotate : BitVec 4) (imm8 : Imm8Field) : Word :=
  cond ++ 0b001#3 ++ 0b10#2 ++ BitVec.ofBool r ++ BitVec.ofBool opLo ++ 0b0#1 ++ mask ++ bits15to12 ++ rotate ++ imm8

/-- R87. -/
def formatTransferImm (cond : CondField) (p u b wb l : Bool) (rn rd : RegField) (imm12 : Imm12Field) : Word :=
  cond ++ 0b010#3 ++ BitVec.ofBool p ++ BitVec.ofBool u ++ BitVec.ofBool b ++ BitVec.ofBool wb ++ BitVec.ofBool l ++ rn ++ rd ++
    imm12

/-- R88. -/
def formatTransferReg (cond : CondField) (p u b wb l : Bool) (rn rd : RegField) (shiftImm : ShiftImmField) (shift : ShiftField)
    (rm : RegField) : Word :=
  cond ++ 0b011#3 ++ BitVec.ofBool p ++ BitVec.ofBool u ++ BitVec.ofBool b ++ BitVec.ofBool wb ++ BitVec.ofBool l ++ rn ++ rd ++
    shiftImm ++ shift ++ 0b0#1 ++ rm

/-- R89. -/
def formatBranch (cond : CondField) (link : Bool) (offset24 : Offset24Field) : Word :=
  cond ++ 0b101#3 ++ BitVec.ofBool link ++ offset24

/-- A word of which only the condition and the bits its row fixes are read. -/
def formatFixed (cond : CondField) (fixed : BitVec 28) : Word := cond ++ fixed

/-- The word of an instruction. -/
def encode (i : Instr) : Word :=
  match i with
  | .andShiftImm cond sf rn rd shiftImm shift rm => formatDpShiftImm cond 0x0#4 sf rn rd shiftImm shift rm
  | .andShiftReg cond sf rn rd rs shift rm => formatDpShiftReg cond 0x0#4 sf rn rd rs shift rm
  | .andRotImm cond sf rn rd rotate imm8 => formatDpRotImm cond 0x0#4 sf rn rd rotate imm8
  | .eorShiftImm cond sf rn rd shiftImm shift rm => formatDpShiftImm cond 0x1#4 sf rn rd shiftImm shift rm
  | .eorShiftReg cond sf rn rd rs shift rm => formatDpShiftReg cond 0x1#4 sf rn rd rs shift rm
  | .eorRotImm cond sf rn rd rotate imm8 => formatDpRotImm cond 0x1#4 sf rn rd rotate imm8
  | .subShiftImm cond sf rn rd shiftImm shift rm => formatDpShiftImm cond 0x2#4 sf rn rd shiftImm shift rm
  | .subShiftReg cond sf rn rd rs shift rm => formatDpShiftReg cond 0x2#4 sf rn rd rs shift rm
  | .subRotImm cond sf rn rd rotate imm8 => formatDpRotImm cond 0x2#4 sf rn rd rotate imm8
  | .rsbShiftImm cond sf rn rd shiftImm shift rm => formatDpShiftImm cond 0x3#4 sf rn rd shiftImm shift rm
  | .rsbShiftReg cond sf rn rd rs shift rm => formatDpShiftReg cond 0x3#4 sf rn rd rs shift rm
  | .rsbRotImm cond sf rn rd rotate imm8 => formatDpRotImm cond 0x3#4 sf rn rd rotate imm8
  | .addShiftImm cond sf rn rd shiftImm shift rm => formatDpShiftImm cond 0x4#4 sf rn rd shiftImm shift rm
  | .addShiftReg cond sf rn rd rs shift rm => formatDpShiftReg cond 0x4#4 sf rn rd rs shift rm
  | .addRotImm cond sf rn rd rotate imm8 => formatDpRotImm cond 0x4#4 sf rn rd rotate imm8
  | .adcShiftImm cond sf rn rd shiftImm shift rm => formatDpShiftImm cond 0x5#4 sf rn rd shiftImm shift rm
  | .adcShiftReg cond sf rn rd rs shift rm => formatDpShiftReg cond 0x5#4 sf rn rd rs shift rm
  | .adcRotImm cond sf rn rd rotate imm8 => formatDpRotImm cond 0x5#4 sf rn rd rotate imm8
  | .sbcShiftImm cond sf rn rd shiftImm shift rm => formatDpShiftImm cond 0x6#4 sf rn rd shiftImm shift rm
  | .sbcShiftReg cond sf rn rd rs shift rm => formatDpShiftReg cond 0x6#4 sf rn rd rs shift rm
  | .sbcRotImm cond sf rn rd rotate imm8 => formatDpRotImm cond 0x6#4 sf rn rd rotate imm8
  | .rscShiftImm cond sf rn rd shiftImm shift rm => formatDpShiftImm cond 0x7#4 sf rn rd shiftImm shift rm
  | .rscShiftReg cond sf rn rd rs shift rm => formatDpShiftReg cond 0x7#4 sf rn rd rs shift rm
  | .rscRotImm cond sf rn rd rotate imm8 => formatDpRotImm cond 0x7#4 sf rn rd rotate imm8
  | .tstShiftImm cond rn shiftImm shift rm => formatDpShiftImm cond 0x8#4 true rn 0#4 shiftImm shift rm
  | .tstShiftReg cond rn rs shift rm => formatDpShiftReg cond 0x8#4 true rn 0#4 rs shift rm
  | .tstRotImm cond rn rotate imm8 => formatDpRotImm cond 0x8#4 true rn 0#4 rotate imm8
  | .teqShiftImm cond rn shiftImm shift rm => formatDpShiftImm cond 0x9#4 true rn 0#4 shiftImm shift rm
  | .teqShiftReg cond rn rs shift rm => formatDpShiftReg cond 0x9#4 true rn 0#4 rs shift rm
  | .teqRotImm cond rn rotate imm8 => formatDpRotImm cond 0x9#4 true rn 0#4 rotate imm8
  | .cmpShiftImm cond rn shiftImm shift rm => formatDpShiftImm cond 0xA#4 true rn 0#4 shiftImm shift rm
  | .cmpShiftReg cond rn rs shift rm => formatDpShiftReg cond 0xA#4 true rn 0#4 rs shift rm
  | .cmpRotImm cond rn rotate imm8 => formatDpRotImm cond 0xA#4 true rn 0#4 rotate imm8
  | .cmnShiftImm cond rn shiftImm shift rm => formatDpShiftImm cond 0xB#4 true rn 0#4 shiftImm shift rm
  | .cmnShiftReg cond rn rs shift rm => formatDpShiftReg cond 0xB#4 true rn 0#4 rs shift rm
  | .cmnRotImm cond rn rotate imm8 => formatDpRotImm cond 0xB#4 true rn 0#4 rotate imm8
  | .orrShiftImm cond sf rn rd shiftImm shift rm => formatDpShiftImm cond 0xC#4 sf rn rd shiftImm shift rm
  | .orrShiftReg cond sf rn rd rs shift rm => formatDpShiftReg cond 0xC#4 sf rn rd rs shift rm
  | .orrRotImm cond sf rn rd rotate imm8 => formatDpRotImm cond 0xC#4 sf rn rd rotate imm8
  | .movShiftImm cond sf rd shiftImm shift rm => formatDpShiftImm cond 0xD#4 sf 0#4 rd shiftImm shift rm
  | .movShiftReg cond sf rd rs shift rm => formatDpShiftReg cond 0xD#4 sf 0#4 rd rs shift rm
  | .movRotImm cond sf rd rotate imm8 => formatDpRotImm cond 0xD#4 sf 0#4 rd rotate imm8
  | .bicShiftImm cond sf rn rd shiftImm shift rm => formatDpShiftImm cond 0xE#4 sf rn rd shiftImm shift rm
  | .bicShiftReg cond sf rn rd rs shift rm => formatDpShiftReg cond 0xE#4 sf rn rd rs shift rm
  | .bicRotImm cond sf rn rd rotate imm8 => formatDpRotImm cond 0xE#4 sf rn rd rotate imm8
  | .mvnShiftImm cond sf rd shiftImm shift rm => formatDpShiftImm cond 0xF#4 sf 0#4 rd shiftImm shift rm
  | .mvnShiftReg cond sf rd rs shift rm => formatDpShiftReg cond 0xF#4 sf 0#4 rd rs shift rm
  | .mvnRotImm cond sf rd rotate imm8 => formatDpRotImm cond 0xF#4 sf 0#4 rd rotate imm8
  | .mrs cond r rd => formatMisc cond r false 0#4 rd 0#4 0x0#4 0#4
  | .msr cond r mask rm => formatMisc cond r true mask 0#4 0#4 0x0#4 rm
  | .bx cond rm => formatMisc cond false true 0#4 0#4 0#4 0x1#4 rm
  | .undefMiscHi0Lo1 cond => formatMisc cond false false 0#4 0#4 0#4 0x1#4 0#4
  | .undefMiscHi0Lo2 cond => formatMisc cond false false 0#4 0#4 0#4 0x2#4 0#4
  | .undefMiscHi0Lo3 cond => formatMisc cond false false 0#4 0#4 0#4 0x3#4 0#4
  | .undefMiscHi0Lo4 cond => formatMisc cond false false 0#4 0#4 0#4 0x4#4 0#4
  | .undefMiscHi0Lo5 cond => formatMisc cond false false 0#4 0#4 0#4 0x5#4 0#4
  | .undefMiscHi0Lo6 cond => formatMisc cond false false 0#4 0#4 0#4 0x6#4 0#4
  | .undefMiscHi0Lo7 cond => formatMisc cond false false 0#4 0#4 0#4 0x7#4 0#4
  | .undefMiscHi0Lo8 cond => formatMisc cond false false 0#4 0#4 0#4 0x8#4 0#4
  | .undefMiscHi0LoA cond => formatMisc cond false false 0#4 0#4 0#4 0xA#4 0#4
  | .undefMiscHi0LoC cond => formatMisc cond false false 0#4 0#4 0#4 0xC#4 0#4
  | .undefMiscHi0LoE cond => formatMisc cond false false 0#4 0#4 0#4 0xE#4 0#4
  | .undefMiscHi1Lo2 cond => formatMisc cond false true 0#4 0#4 0#4 0x2#4 0#4
  | .undefMiscHi1Lo3 cond => formatMisc cond false true 0#4 0#4 0#4 0x3#4 0#4
  | .undefMiscHi1Lo4 cond => formatMisc cond false true 0#4 0#4 0#4 0x4#4 0#4
  | .undefMiscHi1Lo5 cond => formatMisc cond false true 0#4 0#4 0#4 0x5#4 0#4
  | .undefMiscHi1Lo6 cond => formatMisc cond false true 0#4 0#4 0#4 0x6#4 0#4
  | .undefMiscHi1Lo7 cond => formatMisc cond false true 0#4 0#4 0#4 0x7#4 0#4
  | .undefMiscHi1Lo8 cond => formatMisc cond false true 0#4 0#4 0#4 0x8#4 0#4
  | .undefMiscHi1LoA cond => formatMisc cond false true 0#4 0#4 0#4 0xA#4 0#4
  | .undefMiscHi1LoC cond => formatMisc cond false true 0#4 0#4 0#4 0xC#4 0#4
  | .undefMiscHi1LoE cond => formatMisc cond false true 0#4 0#4 0#4 0xE#4 0#4
  | .msrImm cond r mask rotate imm8 => formatMajor1Band cond r true mask 0#4 rotate imm8
  | .undefMajor1Band cond => formatMajor1Band cond false false 0#4 0#4 0#4 0#8
  | .ldrImmP1 cond p u byte wb l rn rd imm12 => formatTransferImm cond p u byte wb l rn rd imm12
  | .ldrImmP0 cond p u byte wb l rn rd imm12 => formatTransferImm cond p u byte wb l rn rd imm12
  | .ldrtImm cond p u byte wb l rn rd imm12 => formatTransferImm cond p u byte wb l rn rd imm12
  | .strImmP1 cond p u byte wb l rn rd imm12 => formatTransferImm cond p u byte wb l rn rd imm12
  | .strImmP0 cond p u byte wb l rn rd imm12 => formatTransferImm cond p u byte wb l rn rd imm12
  | .strtImm cond p u byte wb l rn rd imm12 => formatTransferImm cond p u byte wb l rn rd imm12
  | .ldrbImmP1 cond p u byte wb l rn rd imm12 => formatTransferImm cond p u byte wb l rn rd imm12
  | .ldrbImmP0 cond p u byte wb l rn rd imm12 => formatTransferImm cond p u byte wb l rn rd imm12
  | .ldrbtImm cond p u byte wb l rn rd imm12 => formatTransferImm cond p u byte wb l rn rd imm12
  | .strbImmP1 cond p u byte wb l rn rd imm12 => formatTransferImm cond p u byte wb l rn rd imm12
  | .strbImmP0 cond p u byte wb l rn rd imm12 => formatTransferImm cond p u byte wb l rn rd imm12
  | .strbtImm cond p u byte wb l rn rd imm12 => formatTransferImm cond p u byte wb l rn rd imm12
  | .ldrRegP1 cond p u byte wb l rn rd shiftImm shift rm => formatTransferReg cond p u byte wb l rn rd shiftImm shift rm
  | .ldrRegP0 cond p u byte wb l rn rd shiftImm shift rm => formatTransferReg cond p u byte wb l rn rd shiftImm shift rm
  | .ldrtReg cond p u byte wb l rn rd shiftImm shift rm => formatTransferReg cond p u byte wb l rn rd shiftImm shift rm
  | .strRegP1 cond p u byte wb l rn rd shiftImm shift rm => formatTransferReg cond p u byte wb l rn rd shiftImm shift rm
  | .strRegP0 cond p u byte wb l rn rd shiftImm shift rm => formatTransferReg cond p u byte wb l rn rd shiftImm shift rm
  | .strtReg cond p u byte wb l rn rd shiftImm shift rm => formatTransferReg cond p u byte wb l rn rd shiftImm shift rm
  | .ldrbRegP1 cond p u byte wb l rn rd shiftImm shift rm => formatTransferReg cond p u byte wb l rn rd shiftImm shift rm
  | .ldrbRegP0 cond p u byte wb l rn rd shiftImm shift rm => formatTransferReg cond p u byte wb l rn rd shiftImm shift rm
  | .ldrbtReg cond p u byte wb l rn rd shiftImm shift rm => formatTransferReg cond p u byte wb l rn rd shiftImm shift rm
  | .strbRegP1 cond p u byte wb l rn rd shiftImm shift rm => formatTransferReg cond p u byte wb l rn rd shiftImm shift rm
  | .strbRegP0 cond p u byte wb l rn rd shiftImm shift rm => formatTransferReg cond p u byte wb l rn rd shiftImm shift rm
  | .strbtReg cond p u byte wb l rn rd shiftImm shift rm => formatTransferReg cond p u byte wb l rn rd shiftImm shift rm
  | .undefMajor3Bit4 cond => formatFixed cond 0x6000010#28
  | .b cond link offset24 => formatBranch cond link offset24
  | .bl cond link offset24 => formatBranch cond link offset24
  | .undefMajor4 cond => formatFixed cond 0x8000000#28
  | .undefMajor6 cond => formatFixed cond 0xC000000#28
  | .undefMajor7 cond => formatFixed cond 0xE000000#28
  | .unresolvedMultiplyExtendedLoadStore cond => formatFixed cond 0x0000090#28

/-- The condition field of an instruction: every row has one (R65). -/
def Instr.cond (i : Instr) : CondField :=
  match i with
  | .andShiftImm cond .. => cond
  | .andShiftReg cond .. => cond
  | .andRotImm cond .. => cond
  | .eorShiftImm cond .. => cond
  | .eorShiftReg cond .. => cond
  | .eorRotImm cond .. => cond
  | .subShiftImm cond .. => cond
  | .subShiftReg cond .. => cond
  | .subRotImm cond .. => cond
  | .rsbShiftImm cond .. => cond
  | .rsbShiftReg cond .. => cond
  | .rsbRotImm cond .. => cond
  | .addShiftImm cond .. => cond
  | .addShiftReg cond .. => cond
  | .addRotImm cond .. => cond
  | .adcShiftImm cond .. => cond
  | .adcShiftReg cond .. => cond
  | .adcRotImm cond .. => cond
  | .sbcShiftImm cond .. => cond
  | .sbcShiftReg cond .. => cond
  | .sbcRotImm cond .. => cond
  | .rscShiftImm cond .. => cond
  | .rscShiftReg cond .. => cond
  | .rscRotImm cond .. => cond
  | .tstShiftImm cond .. => cond
  | .tstShiftReg cond .. => cond
  | .tstRotImm cond .. => cond
  | .teqShiftImm cond .. => cond
  | .teqShiftReg cond .. => cond
  | .teqRotImm cond .. => cond
  | .cmpShiftImm cond .. => cond
  | .cmpShiftReg cond .. => cond
  | .cmpRotImm cond .. => cond
  | .cmnShiftImm cond .. => cond
  | .cmnShiftReg cond .. => cond
  | .cmnRotImm cond .. => cond
  | .orrShiftImm cond .. => cond
  | .orrShiftReg cond .. => cond
  | .orrRotImm cond .. => cond
  | .movShiftImm cond .. => cond
  | .movShiftReg cond .. => cond
  | .movRotImm cond .. => cond
  | .bicShiftImm cond .. => cond
  | .bicShiftReg cond .. => cond
  | .bicRotImm cond .. => cond
  | .mvnShiftImm cond .. => cond
  | .mvnShiftReg cond .. => cond
  | .mvnRotImm cond .. => cond
  | .mrs cond .. => cond
  | .msr cond .. => cond
  | .bx cond .. => cond
  | .undefMiscHi0Lo1 cond .. => cond
  | .undefMiscHi0Lo2 cond .. => cond
  | .undefMiscHi0Lo3 cond .. => cond
  | .undefMiscHi0Lo4 cond .. => cond
  | .undefMiscHi0Lo5 cond .. => cond
  | .undefMiscHi0Lo6 cond .. => cond
  | .undefMiscHi0Lo7 cond .. => cond
  | .undefMiscHi0Lo8 cond .. => cond
  | .undefMiscHi0LoA cond .. => cond
  | .undefMiscHi0LoC cond .. => cond
  | .undefMiscHi0LoE cond .. => cond
  | .undefMiscHi1Lo2 cond .. => cond
  | .undefMiscHi1Lo3 cond .. => cond
  | .undefMiscHi1Lo4 cond .. => cond
  | .undefMiscHi1Lo5 cond .. => cond
  | .undefMiscHi1Lo6 cond .. => cond
  | .undefMiscHi1Lo7 cond .. => cond
  | .undefMiscHi1Lo8 cond .. => cond
  | .undefMiscHi1LoA cond .. => cond
  | .undefMiscHi1LoC cond .. => cond
  | .undefMiscHi1LoE cond .. => cond
  | .msrImm cond .. => cond
  | .undefMajor1Band cond .. => cond
  | .ldrImmP1 cond .. => cond
  | .ldrImmP0 cond .. => cond
  | .ldrtImm cond .. => cond
  | .strImmP1 cond .. => cond
  | .strImmP0 cond .. => cond
  | .strtImm cond .. => cond
  | .ldrbImmP1 cond .. => cond
  | .ldrbImmP0 cond .. => cond
  | .ldrbtImm cond .. => cond
  | .strbImmP1 cond .. => cond
  | .strbImmP0 cond .. => cond
  | .strbtImm cond .. => cond
  | .ldrRegP1 cond .. => cond
  | .ldrRegP0 cond .. => cond
  | .ldrtReg cond .. => cond
  | .strRegP1 cond .. => cond
  | .strRegP0 cond .. => cond
  | .strtReg cond .. => cond
  | .ldrbRegP1 cond .. => cond
  | .ldrbRegP0 cond .. => cond
  | .ldrbtReg cond .. => cond
  | .strbRegP1 cond .. => cond
  | .strbRegP0 cond .. => cond
  | .strbtReg cond .. => cond
  | .undefMajor3Bit4 cond .. => cond
  | .b cond .. => cond
  | .bl cond .. => cond
  | .undefMajor4 cond .. => cond
  | .undefMajor6 cond .. => cond
  | .undefMajor7 cond .. => cond
  | .unresolvedMultiplyExtendedLoadStore cond .. => cond

/-! ## The opcode table as data

spec/opcode_table.json row by row, in its order, which is the order of `Instr`'s constructors: row `k` belongs to the
constructor of index `k`. -/

/-- One row: a word `w` is the row's when `w &&& mask = pattern`; `care` are the bits of the mask and of the row's fields, and
every other bit is ignored (R91). -/
structure TableRow where
  mnemonic : String
  pattern : Word
  mask : Word
  care : Word
  deriving DecidableEq, Repr

/-- Rows 0 to 15: data processing, R104 to R119. -/
def dpRows1 : List TableRow := [
  ⟨"And", 0x00000000#32, 0x0FE00010#32, 0xFFFFFFFF#32⟩,
  ⟨"And", 0x00000010#32, 0x0FE00090#32, 0xFFFFFFFF#32⟩,
  ⟨"And", 0x02000000#32, 0x0FE00000#32, 0xFFFFFFFF#32⟩,
  ⟨"Eor", 0x00200000#32, 0x0FE00010#32, 0xFFFFFFFF#32⟩,
  ⟨"Eor", 0x00200010#32, 0x0FE00090#32, 0xFFFFFFFF#32⟩,
  ⟨"Eor", 0x02200000#32, 0x0FE00000#32, 0xFFFFFFFF#32⟩,
  ⟨"Sub", 0x00400000#32, 0x0FE00010#32, 0xFFFFFFFF#32⟩,
  ⟨"Sub", 0x00400010#32, 0x0FE00090#32, 0xFFFFFFFF#32⟩,
  ⟨"Sub", 0x02400000#32, 0x0FE00000#32, 0xFFFFFFFF#32⟩,
  ⟨"Rsb", 0x00600000#32, 0x0FE00010#32, 0xFFFFFFFF#32⟩,
  ⟨"Rsb", 0x00600010#32, 0x0FE00090#32, 0xFFFFFFFF#32⟩,
  ⟨"Rsb", 0x02600000#32, 0x0FE00000#32, 0xFFFFFFFF#32⟩,
  ⟨"Add", 0x00800000#32, 0x0FE00010#32, 0xFFFFFFFF#32⟩,
  ⟨"Add", 0x00800010#32, 0x0FE00090#32, 0xFFFFFFFF#32⟩,
  ⟨"Add", 0x02800000#32, 0x0FE00000#32, 0xFFFFFFFF#32⟩,
  ⟨"Adc", 0x00A00000#32, 0x0FE00010#32, 0xFFFFFFFF#32⟩]

/-- Rows 16 to 31: data processing, R104 to R119. -/
def dpRows2 : List TableRow := [
  ⟨"Adc", 0x00A00010#32, 0x0FE00090#32, 0xFFFFFFFF#32⟩,
  ⟨"Adc", 0x02A00000#32, 0x0FE00000#32, 0xFFFFFFFF#32⟩,
  ⟨"Sbc", 0x00C00000#32, 0x0FE00010#32, 0xFFFFFFFF#32⟩,
  ⟨"Sbc", 0x00C00010#32, 0x0FE00090#32, 0xFFFFFFFF#32⟩,
  ⟨"Sbc", 0x02C00000#32, 0x0FE00000#32, 0xFFFFFFFF#32⟩,
  ⟨"Rsc", 0x00E00000#32, 0x0FE00010#32, 0xFFFFFFFF#32⟩,
  ⟨"Rsc", 0x00E00010#32, 0x0FE00090#32, 0xFFFFFFFF#32⟩,
  ⟨"Rsc", 0x02E00000#32, 0x0FE00000#32, 0xFFFFFFFF#32⟩,
  ⟨"Tst", 0x01100000#32, 0x0FF00010#32, 0xFFFF0FFF#32⟩,
  ⟨"Tst", 0x01100010#32, 0x0FF00090#32, 0xFFFF0FFF#32⟩,
  ⟨"Tst", 0x03100000#32, 0x0FF00000#32, 0xFFFF0FFF#32⟩,
  ⟨"Teq", 0x01300000#32, 0x0FF00010#32, 0xFFFF0FFF#32⟩,
  ⟨"Teq", 0x01300010#32, 0x0FF00090#32, 0xFFFF0FFF#32⟩,
  ⟨"Teq", 0x03300000#32, 0x0FF00000#32, 0xFFFF0FFF#32⟩,
  ⟨"Cmp", 0x01500000#32, 0x0FF00010#32, 0xFFFF0FFF#32⟩,
  ⟨"Cmp", 0x01500010#32, 0x0FF00090#32, 0xFFFF0FFF#32⟩]

/-- Rows 32 to 47: data processing, R104 to R119. -/
def dpRows3 : List TableRow := [
  ⟨"Cmp", 0x03500000#32, 0x0FF00000#32, 0xFFFF0FFF#32⟩,
  ⟨"Cmn", 0x01700000#32, 0x0FF00010#32, 0xFFFF0FFF#32⟩,
  ⟨"Cmn", 0x01700010#32, 0x0FF00090#32, 0xFFFF0FFF#32⟩,
  ⟨"Cmn", 0x03700000#32, 0x0FF00000#32, 0xFFFF0FFF#32⟩,
  ⟨"Orr", 0x01800000#32, 0x0FE00010#32, 0xFFFFFFFF#32⟩,
  ⟨"Orr", 0x01800010#32, 0x0FE00090#32, 0xFFFFFFFF#32⟩,
  ⟨"Orr", 0x03800000#32, 0x0FE00000#32, 0xFFFFFFFF#32⟩,
  ⟨"Mov", 0x01A00000#32, 0x0FE00010#32, 0xFFF0FFFF#32⟩,
  ⟨"Mov", 0x01A00010#32, 0x0FE00090#32, 0xFFF0FFFF#32⟩,
  ⟨"Mov", 0x03A00000#32, 0x0FE00000#32, 0xFFF0FFFF#32⟩,
  ⟨"Bic", 0x01C00000#32, 0x0FE00010#32, 0xFFFFFFFF#32⟩,
  ⟨"Bic", 0x01C00010#32, 0x0FE00090#32, 0xFFFFFFFF#32⟩,
  ⟨"Bic", 0x03C00000#32, 0x0FE00000#32, 0xFFFFFFFF#32⟩,
  ⟨"Mvn", 0x01E00000#32, 0x0FE00010#32, 0xFFF0FFFF#32⟩,
  ⟨"Mvn", 0x01E00010#32, 0x0FE00090#32, 0xFFF0FFFF#32⟩,
  ⟨"Mvn", 0x03E00000#32, 0x0FE00000#32, 0xFFF0FFFF#32⟩]

/-- Rows 48 to 63: the miscellaneous space, R141 to R144. -/
def miscRows1 : List TableRow := [
  ⟨"Mrs", 0x01000000#32, 0x0FB000F0#32, 0xFFF0F0F0#32⟩,
  ⟨"Msr", 0x01200000#32, 0x0FB000F0#32, 0xFFFF00FF#32⟩,
  ⟨"Bx", 0x01200010#32, 0x0FB000F0#32, 0xFFB000FF#32⟩,
  ⟨"Undefined", 0x01000010#32, 0x0FB000F0#32, 0xFFB000F0#32⟩,
  ⟨"Undefined", 0x01000020#32, 0x0FB000F0#32, 0xFFB000F0#32⟩,
  ⟨"Undefined", 0x01000030#32, 0x0FB000F0#32, 0xFFB000F0#32⟩,
  ⟨"Undefined", 0x01000040#32, 0x0FB000F0#32, 0xFFB000F0#32⟩,
  ⟨"Undefined", 0x01000050#32, 0x0FB000F0#32, 0xFFB000F0#32⟩,
  ⟨"Undefined", 0x01000060#32, 0x0FB000F0#32, 0xFFB000F0#32⟩,
  ⟨"Undefined", 0x01000070#32, 0x0FB000F0#32, 0xFFB000F0#32⟩,
  ⟨"Undefined", 0x01000080#32, 0x0FB000F0#32, 0xFFB000F0#32⟩,
  ⟨"Undefined", 0x010000A0#32, 0x0FB000F0#32, 0xFFB000F0#32⟩,
  ⟨"Undefined", 0x010000C0#32, 0x0FB000F0#32, 0xFFB000F0#32⟩,
  ⟨"Undefined", 0x010000E0#32, 0x0FB000F0#32, 0xFFB000F0#32⟩,
  ⟨"Undefined", 0x01200020#32, 0x0FB000F0#32, 0xFFB000F0#32⟩,
  ⟨"Undefined", 0x01200030#32, 0x0FB000F0#32, 0xFFB000F0#32⟩]

/-- Rows 64 to 71: the miscellaneous space, R141 to R144. -/
def miscRows2 : List TableRow := [
  ⟨"Undefined", 0x01200040#32, 0x0FB000F0#32, 0xFFB000F0#32⟩,
  ⟨"Undefined", 0x01200050#32, 0x0FB000F0#32, 0xFFB000F0#32⟩,
  ⟨"Undefined", 0x01200060#32, 0x0FB000F0#32, 0xFFB000F0#32⟩,
  ⟨"Undefined", 0x01200070#32, 0x0FB000F0#32, 0xFFB000F0#32⟩,
  ⟨"Undefined", 0x01200080#32, 0x0FB000F0#32, 0xFFB000F0#32⟩,
  ⟨"Undefined", 0x012000A0#32, 0x0FB000F0#32, 0xFFB000F0#32⟩,
  ⟨"Undefined", 0x012000C0#32, 0x0FB000F0#32, 0xFFB000F0#32⟩,
  ⟨"Undefined", 0x012000E0#32, 0x0FB000F0#32, 0xFFB000F0#32⟩]

/-- Rows 72 to 73: PSR-immediate and the undefined band of major 1, R145 and R201. -/
def major1Rows : List TableRow := [
  ⟨"MsrImm", 0x03200000#32, 0x0FB00000#32, 0xFFFF0FFF#32⟩,
  ⟨"Undefined", 0x03000000#32, 0x0FB00000#32, 0xFFB00000#32⟩]

/-- Rows 74 to 89: single data transfer, R165 to R172. -/
def transferRows1 : List TableRow := [
  ⟨"Ldr", 0x05100000#32, 0x0F500000#32, 0xFFFFFFFF#32⟩,
  ⟨"Ldr", 0x04100000#32, 0x0F700000#32, 0xFFFFFFFF#32⟩,
  ⟨"Ldrt", 0x04300000#32, 0x0F700000#32, 0xFFFFFFFF#32⟩,
  ⟨"Str", 0x05000000#32, 0x0F500000#32, 0xFFFFFFFF#32⟩,
  ⟨"Str", 0x04000000#32, 0x0F700000#32, 0xFFFFFFFF#32⟩,
  ⟨"Strt", 0x04200000#32, 0x0F700000#32, 0xFFFFFFFF#32⟩,
  ⟨"Ldrb", 0x05500000#32, 0x0F500000#32, 0xFFFFFFFF#32⟩,
  ⟨"Ldrb", 0x04500000#32, 0x0F700000#32, 0xFFFFFFFF#32⟩,
  ⟨"Ldrbt", 0x04700000#32, 0x0F700000#32, 0xFFFFFFFF#32⟩,
  ⟨"Strb", 0x05400000#32, 0x0F500000#32, 0xFFFFFFFF#32⟩,
  ⟨"Strb", 0x04400000#32, 0x0F700000#32, 0xFFFFFFFF#32⟩,
  ⟨"Strbt", 0x04600000#32, 0x0F700000#32, 0xFFFFFFFF#32⟩,
  ⟨"Ldr", 0x07100000#32, 0x0F500010#32, 0xFFFFFFFF#32⟩,
  ⟨"Ldr", 0x06100000#32, 0x0F700010#32, 0xFFFFFFFF#32⟩,
  ⟨"Ldrt", 0x06300000#32, 0x0F700010#32, 0xFFFFFFFF#32⟩,
  ⟨"Str", 0x07000000#32, 0x0F500010#32, 0xFFFFFFFF#32⟩]

/-- Rows 90 to 97: single data transfer, R165 to R172. -/
def transferRows2 : List TableRow := [
  ⟨"Str", 0x06000000#32, 0x0F700010#32, 0xFFFFFFFF#32⟩,
  ⟨"Strt", 0x06200000#32, 0x0F700010#32, 0xFFFFFFFF#32⟩,
  ⟨"Ldrb", 0x07500000#32, 0x0F500010#32, 0xFFFFFFFF#32⟩,
  ⟨"Ldrb", 0x06500000#32, 0x0F700010#32, 0xFFFFFFFF#32⟩,
  ⟨"Ldrbt", 0x06700000#32, 0x0F700010#32, 0xFFFFFFFF#32⟩,
  ⟨"Strb", 0x07400000#32, 0x0F500010#32, 0xFFFFFFFF#32⟩,
  ⟨"Strb", 0x06400000#32, 0x0F700010#32, 0xFFFFFFFF#32⟩,
  ⟨"Strbt", 0x06600000#32, 0x0F700010#32, 0xFFFFFFFF#32⟩]

/-- Rows 98 to 104: the reserved space of major 3, branch, majors 4, 6 and 7, and the unresolved path, R190, R191, R201 to R203. -/
def otherRows : List TableRow := [
  ⟨"Undefined", 0x06000010#32, 0x0E000010#32, 0xFE000010#32⟩,
  ⟨"B", 0x0A000000#32, 0x0F000000#32, 0xFFFFFFFF#32⟩,
  ⟨"B", 0x0B000000#32, 0x0F000000#32, 0xFFFFFFFF#32⟩,
  ⟨"Undefined", 0x08000000#32, 0x0E000000#32, 0xFE000000#32⟩,
  ⟨"Undefined", 0x0C000000#32, 0x0E000000#32, 0xFE000000#32⟩,
  ⟨"Undefined", 0x0E000000#32, 0x0E000000#32, 0xFE000000#32⟩,
  ⟨"Unresolved(MultiplyExtendedLoadStore)", 0x00000090#32, 0x0E000090#32, 0xFE000090#32⟩]

/-- The whole table. -/
def opcodeTable : List TableRow :=
  dpRows1 ++ dpRows2 ++ dpRows3 ++ miscRows1 ++ miscRows2 ++ major1Rows ++ transferRows1 ++ transferRows2 ++ otherRows

/-- The index of an instruction's row in the table. -/
def Instr.rowIndex (i : Instr) : Nat := i.ctorIdx

/-- A word has the fixed bits of a row. -/
def TableRow.matches (r : TableRow) (w : Word) : Bool := w &&& r.mask == r.pattern

end Sys2Proof
end

