-- ==== Sys2Proof/Machine/Output.lean ====
section
/-! DEFINITION. The types of the block's output port (spec/10_state.md R23 to R34), in the operand order that R32 fixes. The
declared variants that no decode path produces (R35, R204) are left out, as decision D12 allows
(notes/assumptions/7.md). -/

namespace Sys2Proof.Machine

/-- R23: the 16 conditions, in code order. -/
inductive Condition where
  | eq | ne | cs | cc | mi | pl | vs | vc | hi | ls | ge | lt | gt | le | always | reserved
  deriving DecidableEq, Repr

/-- R24: a register index, 0 to 15. Index 15 is not distinguished (R17). The type excludes an index out of range, which
the source calls unreachable (spec/93_implementation_defined.md U8). -/
structure Reg where
  index : Fin 16
  deriving DecidableEq, Repr

/-- R25: the four shift types. -/
inductive ShiftType where
  | lsl | lsr | asr | ror
  deriving DecidableEq, Repr

/-- R26: a shift amount, raw and not yet applied. -/
inductive ShiftAmount where
  | imm (n : ShiftImmField)
  | register (rs : Reg)
  deriving DecidableEq, Repr

/-- R27: the shifter operand. The source's `ShiftLeftImm(r, n)` is `shift r lsl (imm n)` (conflict C2). -/
inductive Op2 where
  | immediate (value : Imm8Field) (rotate : RotateField)
  | shift (register : Reg) (shift : ShiftType) (amount : ShiftAmount)
  deriving DecidableEq, Repr

/-- R28: the four byte lanes of a status register, each selected or not. -/
structure Mask where
  control : Bool
  extension : Bool
  status : Bool
  flags : Bool
  deriving DecidableEq, Repr

/-- R29: the indexing kinds. -/
inductive Indexing where
  | offset | preIndexed | postIndexed
  deriving DecidableEq, Repr

/-- R30: the Mode2 offset. -/
inductive Offset2 where
  | immediate (n : Imm12Field)
  | register (register : Reg) (shift : ShiftType) (amount : ShiftImmField)
  deriving DecidableEq, Repr

/-- R31: the addressing mode of a word or byte transfer. -/
structure Mode2 where
  base : Reg
  subtract : Bool
  indexing : Indexing
  offset : Offset2
  deriving DecidableEq, Repr

/-- R32, R42: the three raw bytes of a branch offset, `byte0` the least significant. -/
structure OffsetBytes where
  byte0 : Byte
  byte1 : Byte
  byte2 : Byte
  deriving DecidableEq, Repr

/-- R32: every constructor the block can output. -/
inductive Operation where
  | and (s : Bool) (rd rn : Reg) (op2 : Op2)
  | eor (s : Bool) (rd rn : Reg) (op2 : Op2)
  | sub (s : Bool) (rd rn : Reg) (op2 : Op2)
  | rsb (s : Bool) (rd rn : Reg) (op2 : Op2)
  | add (s : Bool) (rd rn : Reg) (op2 : Op2)
  | adc (s : Bool) (rd rn : Reg) (op2 : Op2)
  | sbc (s : Bool) (rd rn : Reg) (op2 : Op2)
  | rsc (s : Bool) (rd rn : Reg) (op2 : Op2)
  | tst (rn : Reg) (op2 : Op2)
  | teq (rn : Reg) (op2 : Op2)
  | cmp (rn : Reg) (op2 : Op2)
  | cmn (rn : Reg) (op2 : Op2)
  | orr (s : Bool) (rd rn : Reg) (op2 : Op2)
  | mov (s : Bool) (rd : Reg) (op2 : Op2)
  | bic (s : Bool) (rd rn : Reg) (op2 : Op2)
  | mvn (s : Bool) (rd : Reg) (op2 : Op2)
  | mrs (rd : Reg) (r : Bool)
  | msr (rm : Reg) (r : Bool) (mask : Mask)
  | msrImm (r : Bool) (mask : Mask) (imm : Op2)
  | bx (rm : Reg)
  | ldr (rd : Reg) (mode : Mode2)
  | str (rd : Reg) (mode : Mode2)
  | ldrb (rd : Reg) (mode : Mode2)
  | strb (rd : Reg) (mode : Mode2)
  | ldrt (rd : Reg) (mode : Mode2)
  | strt (rd : Reg) (mode : Mode2)
  | ldrbt (rd : Reg) (mode : Mode2)
  | strbt (rd : Reg) (mode : Mode2)
  | b (link : Bool) (offset : OffsetBytes)
  | undefined
  deriving DecidableEq, Repr

/-- R33: one decoded instruction. -/
structure Decoded where
  condition : Condition
  operation : Operation
  deriving DecidableEq, Repr

/-- R34: the families a refusal can name. The block names only this one. -/
inductive Family where
  | multiplyExtendedLoadStore
  deriving DecidableEq, Repr

/-- R34: the value of the output port. -/
inductive DecodeResult where
  | ok (d : Decoded)
  | unresolved (family : Family)
  deriving DecidableEq, Repr

end Sys2Proof.Machine
end

