-- ==== Sys2Proof/Machine/Flags.lean ====
section
/-! DEFINITION. What the block decodes about flags and status registers. It has no flag and computes none (spec/10_state.md
R37, R38): it names the condition under which an execution stage is to run the instruction, and the lanes of a status
register an instruction writes. -/

namespace Sys2Proof.Machine

/-- R65: the condition-code mapper, total on the 16 codes. The codes between the end points are read from the order of the
source's list (decision D20; notes/assumptions/6.md). -/
def condTable (c : CondField) : Condition :=
  match c.extractLsb' 2 2, c.extractLsb' 0 2 with
  | 0b00#2, 0b00#2 => .eq
  | 0b00#2, 0b01#2 => .ne
  | 0b00#2, 0b10#2 => .cs
  | 0b00#2, 0b11#2 => .cc
  | 0b01#2, 0b00#2 => .mi
  | 0b01#2, 0b01#2 => .pl
  | 0b01#2, 0b10#2 => .vs
  | 0b01#2, 0b11#2 => .vc
  | 0b10#2, 0b00#2 => .hi
  | 0b10#2, 0b01#2 => .ls
  | 0b10#2, 0b10#2 => .ge
  | 0b10#2, 0b11#2 => .lt
  | 0b11#2, 0b00#2 => .gt
  | 0b11#2, 0b01#2 => .le
  | 0b11#2, 0b10#2 => .always
  | 0b11#2, 0b11#2 => .reserved

/-- R75: the mask of a PSR write, from `w[19:16]`; bit 3 of the field is `w[19]`. -/
def maskOf (m : MaskField) : Mask where
  control := m.getLsbD 0
  extension := m.getLsbD 1
  status := m.getLsbD 2
  flags := m.getLsbD 3

end Sys2Proof.Machine
end

