-- ==== Sys2Proof/Machine/Operands.lean ====
section
/-! DEFINITION. Operand assembly (spec/30_encoding.md section 7), the ALU opcode table (section 6), the Mode2
addressing-mode decoder (spec/42_single_data_transfer.md section 1) and the branch operand (spec/43_branch.md). Every amount
is raw: nothing is rotated, shifted, scaled or sign-extended (R7). -/

namespace Sys2Proof.Machine

/-- R24: the register a 4-bit field names, with no range check and nothing special at 15 (R17). -/
def reg (r : RegField) : Reg := ⟨r.toFin⟩

/-- R74: the shift types by code (decision D4; notes/assumptions/5.md). -/
def shiftTable (t : ShiftField) : ShiftType :=
  match t with
  | 0b00#2 => .lsl
  | 0b01#2 => .lsr
  | 0b10#2 => .asr
  | 0b11#2 => .ror

/-- R71: operand-2 as a raw immediate pair. -/
def op2Imm (rotate : RotateField) (imm8 : Imm8Field) : Op2 := .immediate imm8 rotate

/-- R72: operand-2 as a register shifted by a raw immediate; an amount of 0 has no special meaning. -/
def op2ShiftImm (shiftImm : ShiftImmField) (shift : ShiftField) (rm : RegField) : Op2 :=
  .shift (reg rm) (shiftTable shift) (.imm shiftImm)

/-- R73: operand-2 as a register shifted by a register. -/
def op2ShiftReg (rs : RegField) (shift : ShiftField) (rm : RegField) : Op2 :=
  .shift (reg rm) (shiftTable shift) (.register (reg rs))

/-- The 16 ALU operations of R70. -/
inductive AluOp where
  | and | eor | sub | rsb | add | adc | sbc | rsc | tst | teq | cmp | cmn | orr | mov | bic | mvn
  deriving DecidableEq, Repr

/-- R70: the ALU operation by opcode, in the order of the source's list (decision D20; notes/assumptions/6.md). -/
def aluTable (opcode : OpcodeField) : AluOp :=
  match opcode.extractLsb' 2 2, opcode.extractLsb' 0 2 with
  | 0b00#2, 0b00#2 => .and
  | 0b00#2, 0b01#2 => .eor
  | 0b00#2, 0b10#2 => .sub
  | 0b00#2, 0b11#2 => .rsb
  | 0b01#2, 0b00#2 => .add
  | 0b01#2, 0b01#2 => .adc
  | 0b01#2, 0b10#2 => .sbc
  | 0b01#2, 0b11#2 => .rsc
  | 0b10#2, 0b00#2 => .tst
  | 0b10#2, 0b01#2 => .teq
  | 0b10#2, 0b10#2 => .cmp
  | 0b10#2, 0b11#2 => .cmn
  | 0b11#2, 0b00#2 => .orr
  | 0b11#2, 0b01#2 => .mov
  | 0b11#2, 0b10#2 => .bic
  | 0b11#2, 0b11#2 => .mvn

/-- R161: the indexing kind. -/
def indexingOf (p wb : Bool) : Indexing :=
  if !p then .postIndexed else if wb then .preIndexed else .offset

/-- R162: the unprivileged override holds exactly when `p` is clear and `wb` is set. -/
def unprivileged (p wb : Bool) : Bool := !p && wb

/-- R77: the immediate offset of a transfer. -/
def offsetImm (imm12 : Imm12Field) : Offset2 := .immediate imm12

/-- R78: the shifted-register offset of a transfer; an amount of 0 has no special meaning. -/
def offsetReg (shiftImm : ShiftImmField) (shift : ShiftField) (rm : RegField) : Offset2 :=
  .register (reg rm) (shiftTable shift) shiftImm

/-- R160: the Mode2 value. -/
def mode2 (p u wb : Bool) (rn : RegField) (offset : Offset2) : Mode2 where
  base := reg rn
  subtract := !u
  indexing := indexingOf p wb
  offset := offset

/-- R42, R79: the raw bytes of the branch offset, least significant first. -/
def offsetBytes (offset24 : Offset24Field) : OffsetBytes where
  byte0 := offset24.extractLsb' 0 8
  byte1 := offset24.extractLsb' 8 8
  byte2 := offset24.extractLsb' 16 8

/-- R42: the 24-bit number that the three bytes denote. -/
def OffsetBytes.value (o : OffsetBytes) : Nat :=
  o.byte0.toNat + 256 * o.byte1.toNat + 65536 * o.byte2.toNat

end Sys2Proof.Machine
end

