-- ==== Sys2Proof/Machine/State.lean ====
section
/-! DEFINITION. The state of the modelled machine, its reset and its reasons to stop. The block itself holds no architectural
state (spec/10_state.md R20): what stands here is its two ports (R21, R22), and beside them the words its feeder has yet
to present (spec/70_reset_and_hazards.md R251), which are the environment's and not the block's
(notes/assumptions/1.md and 2.md). -/

namespace Sys2Proof.Machine

/-- R220: the block raises no exception, trap or fault for any input word, so there is no reason to fault. -/
inductive Fault where
  deriving DecidableEq, Repr

/-- Why a step gives no next state. -/
inductive Refusal where
  /-- An instruction of the table that has no meaning in this model. Raised by a refused arm of `exec` only; the model has
  none. Safe: nothing can be proved about what such an instruction does. -/
  | notModelled (mnemonic : String)
  /-- R202, R34: the word is in a family the source declares and does not decode. Raised by
  `execUnresolvedMultiplyExtendedLoadStore` only. Safe: no claim about an output for such a word can be proved. -/
  | unresolved (family : Family)
  deriving DecidableEq, Repr

/-- The ports of the block and the words still to be presented to it. -/
structure State where
  /-- R21: the input port `instr[31:0]`. -/
  instr : Word
  /-- R22: the output port `result`. -/
  result : DecodeResult
  /-- R251: the words the feeder presents from now on, the next one first. The model's own field: environment, not block. -/
  feed : List Word
  deriving DecidableEq, Repr

/-- What a step or a meaning answers. -/
abbrev Answer := Host.Outcome State Fault Refusal

/-- The machine before its first evaluation. The block has no reset and no reset value (R39, R250). The word that stands at
the input is a DESIGN CHOICE, zero, and the output is what R250 then requires of it, the decoding of the all-zero word
(R104, source Scenario D); no word is waiting (notes/assumptions/3.md). -/
def State.reset : State where
  instr := 0x00000000#32
  result := .ok ⟨.eq, .and false ⟨0⟩ ⟨0⟩ (.shift ⟨0⟩ .lsl (.imm 0#5))⟩
  feed := []

end Sys2Proof.Machine
end

