-- ==== Sys2Proof/Machine/Ops.lean ====
section
/-! DEFINITION. The operations over the ports that every step and every meaning is made of. The block has no memory port
(spec/20_memory.md R40), no register file (R20), no exception entry and no return from one
(spec/60_exceptions.md R220, R223), so there are no operations for those. -/

namespace Sys2Proof.Machine

/-- The feeder presents its next word at the input port (R21, R251). When it has no other word, the word at the input
stays (DESIGN CHOICE; notes/assumptions/2.md). -/
def State.present (s : State) : State :=
  match s.feed with
  | [] => s
  | w :: rest => { s with instr := w, feed := rest }

/-- The block drives `Ok(Decoded{condition, operation})` on its output port (R22, R65, R92). -/
def State.drive (s : State) (cond : CondField) (op : Operation) : Answer :=
  .next { s with result := .ok ⟨condTable cond, op⟩ }

/-- The block gives no `Decoded` value for the word (R202). -/
def State.refuse (_s : State) (family : Family) : Answer :=
  .refused (.unresolved family)

end Sys2Proof.Machine
end

