-- ==== Sys2Proof/Machine/Branch.lean ====
section
/-! DEFINITION. The branch family (spec/43_branch.md R190, R191). The block resolves no target and writes no link register
(R192): link and raw bytes are output operands. -/

namespace Sys2Proof.Machine

/-- Row 99, format BR: `B` by R190. -/
def execB (cond : CondField) (link : Bool) (offset24 : Offset24Field) (st : State) : Answer :=
  st.drive cond (.b link (offsetBytes offset24))

/-- Row 100, format BR: `B` by R191. -/
def execBl (cond : CondField) (link : Bool) (offset24 : Offset24Field) (st : State) : Answer :=
  st.drive cond (.b link (offsetBytes offset24))

end Sys2Proof.Machine
end

