-- ==== Sys2Proof/Machine/DataProcessing.lean ====
section
/-! DEFINITION. The data-processing family (spec/40_data_processing.md): 16 operations in three operand-2 forms. The
block computes no result and writes no flag; its effect is the `Decoded` value it drives (R100, R103). A comparison carries no
`s` and no destination, a move no first source (R100, R102). -/

namespace Sys2Proof.Machine

/-- Row 0, format DP-SI: `And` by R104. -/
def execAndShiftImm (cond : CondField) (sf : Bool) (rn rd : RegField) (shiftImm : ShiftImmField) (shift : ShiftField)
    (rm : RegField) (st : State) : Answer :=
  st.drive cond (.and sf (reg rd) (reg rn) (op2ShiftImm shiftImm shift rm))

/-- Row 1, format DP-SR: `And` by R104. -/
def execAndShiftReg (cond : CondField) (sf : Bool) (rn rd rs : RegField) (shift : ShiftField) (rm : RegField)
    (st : State) : Answer :=
  st.drive cond (.and sf (reg rd) (reg rn) (op2ShiftReg rs shift rm))

/-- Row 2, format DP-I: `And` by R104. -/
def execAndRotImm (cond : CondField) (sf : Bool) (rn rd : RegField) (rotate : RotateField) (imm8 : Imm8Field)
    (st : State) : Answer :=
  st.drive cond (.and sf (reg rd) (reg rn) (op2Imm rotate imm8))

/-- Row 3, format DP-SI: `Eor` by R105. -/
def execEorShiftImm (cond : CondField) (sf : Bool) (rn rd : RegField) (shiftImm : ShiftImmField) (shift : ShiftField)
    (rm : RegField) (st : State) : Answer :=
  st.drive cond (.eor sf (reg rd) (reg rn) (op2ShiftImm shiftImm shift rm))

/-- Row 4, format DP-SR: `Eor` by R105. -/
def execEorShiftReg (cond : CondField) (sf : Bool) (rn rd rs : RegField) (shift : ShiftField) (rm : RegField)
    (st : State) : Answer :=
  st.drive cond (.eor sf (reg rd) (reg rn) (op2ShiftReg rs shift rm))

/-- Row 5, format DP-I: `Eor` by R105. -/
def execEorRotImm (cond : CondField) (sf : Bool) (rn rd : RegField) (rotate : RotateField) (imm8 : Imm8Field)
    (st : State) : Answer :=
  st.drive cond (.eor sf (reg rd) (reg rn) (op2Imm rotate imm8))

/-- Row 6, format DP-SI: `Sub` by R106. -/
def execSubShiftImm (cond : CondField) (sf : Bool) (rn rd : RegField) (shiftImm : ShiftImmField) (shift : ShiftField)
    (rm : RegField) (st : State) : Answer :=
  st.drive cond (.sub sf (reg rd) (reg rn) (op2ShiftImm shiftImm shift rm))

/-- Row 7, format DP-SR: `Sub` by R106. -/
def execSubShiftReg (cond : CondField) (sf : Bool) (rn rd rs : RegField) (shift : ShiftField) (rm : RegField)
    (st : State) : Answer :=
  st.drive cond (.sub sf (reg rd) (reg rn) (op2ShiftReg rs shift rm))

/-- Row 8, format DP-I: `Sub` by R106. -/
def execSubRotImm (cond : CondField) (sf : Bool) (rn rd : RegField) (rotate : RotateField) (imm8 : Imm8Field)
    (st : State) : Answer :=
  st.drive cond (.sub sf (reg rd) (reg rn) (op2Imm rotate imm8))

/-- Row 9, format DP-SI: `Rsb` by R107. -/
def execRsbShiftImm (cond : CondField) (sf : Bool) (rn rd : RegField) (shiftImm : ShiftImmField) (shift : ShiftField)
    (rm : RegField) (st : State) : Answer :=
  st.drive cond (.rsb sf (reg rd) (reg rn) (op2ShiftImm shiftImm shift rm))

/-- Row 10, format DP-SR: `Rsb` by R107. -/
def execRsbShiftReg (cond : CondField) (sf : Bool) (rn rd rs : RegField) (shift : ShiftField) (rm : RegField)
    (st : State) : Answer :=
  st.drive cond (.rsb sf (reg rd) (reg rn) (op2ShiftReg rs shift rm))

/-- Row 11, format DP-I: `Rsb` by R107. -/
def execRsbRotImm (cond : CondField) (sf : Bool) (rn rd : RegField) (rotate : RotateField) (imm8 : Imm8Field)
    (st : State) : Answer :=
  st.drive cond (.rsb sf (reg rd) (reg rn) (op2Imm rotate imm8))

/-- Row 12, format DP-SI: `Add` by R108. -/
def execAddShiftImm (cond : CondField) (sf : Bool) (rn rd : RegField) (shiftImm : ShiftImmField) (shift : ShiftField)
    (rm : RegField) (st : State) : Answer :=
  st.drive cond (.add sf (reg rd) (reg rn) (op2ShiftImm shiftImm shift rm))

/-- Row 13, format DP-SR: `Add` by R108. -/
def execAddShiftReg (cond : CondField) (sf : Bool) (rn rd rs : RegField) (shift : ShiftField) (rm : RegField)
    (st : State) : Answer :=
  st.drive cond (.add sf (reg rd) (reg rn) (op2ShiftReg rs shift rm))

/-- Row 14, format DP-I: `Add` by R108. -/
def execAddRotImm (cond : CondField) (sf : Bool) (rn rd : RegField) (rotate : RotateField) (imm8 : Imm8Field)
    (st : State) : Answer :=
  st.drive cond (.add sf (reg rd) (reg rn) (op2Imm rotate imm8))

/-- Row 15, format DP-SI: `Adc` by R109. -/
def execAdcShiftImm (cond : CondField) (sf : Bool) (rn rd : RegField) (shiftImm : ShiftImmField) (shift : ShiftField)
    (rm : RegField) (st : State) : Answer :=
  st.drive cond (.adc sf (reg rd) (reg rn) (op2ShiftImm shiftImm shift rm))

/-- Row 16, format DP-SR: `Adc` by R109. -/
def execAdcShiftReg (cond : CondField) (sf : Bool) (rn rd rs : RegField) (shift : ShiftField) (rm : RegField)
    (st : State) : Answer :=
  st.drive cond (.adc sf (reg rd) (reg rn) (op2ShiftReg rs shift rm))

/-- Row 17, format DP-I: `Adc` by R109. -/
def execAdcRotImm (cond : CondField) (sf : Bool) (rn rd : RegField) (rotate : RotateField) (imm8 : Imm8Field)
    (st : State) : Answer :=
  st.drive cond (.adc sf (reg rd) (reg rn) (op2Imm rotate imm8))

/-- Row 18, format DP-SI: `Sbc` by R110. -/
def execSbcShiftImm (cond : CondField) (sf : Bool) (rn rd : RegField) (shiftImm : ShiftImmField) (shift : ShiftField)
    (rm : RegField) (st : State) : Answer :=
  st.drive cond (.sbc sf (reg rd) (reg rn) (op2ShiftImm shiftImm shift rm))

/-- Row 19, format DP-SR: `Sbc` by R110. -/
def execSbcShiftReg (cond : CondField) (sf : Bool) (rn rd rs : RegField) (shift : ShiftField) (rm : RegField)
    (st : State) : Answer :=
  st.drive cond (.sbc sf (reg rd) (reg rn) (op2ShiftReg rs shift rm))

/-- Row 20, format DP-I: `Sbc` by R110. -/
def execSbcRotImm (cond : CondField) (sf : Bool) (rn rd : RegField) (rotate : RotateField) (imm8 : Imm8Field)
    (st : State) : Answer :=
  st.drive cond (.sbc sf (reg rd) (reg rn) (op2Imm rotate imm8))

/-- Row 21, format DP-SI: `Rsc` by R111. -/
def execRscShiftImm (cond : CondField) (sf : Bool) (rn rd : RegField) (shiftImm : ShiftImmField) (shift : ShiftField)
    (rm : RegField) (st : State) : Answer :=
  st.drive cond (.rsc sf (reg rd) (reg rn) (op2ShiftImm shiftImm shift rm))

/-- Row 22, format DP-SR: `Rsc` by R111. -/
def execRscShiftReg (cond : CondField) (sf : Bool) (rn rd rs : RegField) (shift : ShiftField) (rm : RegField)
    (st : State) : Answer :=
  st.drive cond (.rsc sf (reg rd) (reg rn) (op2ShiftReg rs shift rm))

/-- Row 23, format DP-I: `Rsc` by R111. -/
def execRscRotImm (cond : CondField) (sf : Bool) (rn rd : RegField) (rotate : RotateField) (imm8 : Imm8Field)
    (st : State) : Answer :=
  st.drive cond (.rsc sf (reg rd) (reg rn) (op2Imm rotate imm8))

/-- Row 24, format DP-SI: `Tst` by R112. -/
def execTstShiftImm (cond : CondField) (rn : RegField) (shiftImm : ShiftImmField) (shift : ShiftField) (rm : RegField)
    (st : State) : Answer :=
  st.drive cond (.tst (reg rn) (op2ShiftImm shiftImm shift rm))

/-- Row 25, format DP-SR: `Tst` by R112. -/
def execTstShiftReg (cond : CondField) (rn rs : RegField) (shift : ShiftField) (rm : RegField) (st : State) : Answer :=
  st.drive cond (.tst (reg rn) (op2ShiftReg rs shift rm))

/-- Row 26, format DP-I: `Tst` by R112. -/
def execTstRotImm (cond : CondField) (rn : RegField) (rotate : RotateField) (imm8 : Imm8Field) (st : State) : Answer :=
  st.drive cond (.tst (reg rn) (op2Imm rotate imm8))

/-- Row 27, format DP-SI: `Teq` by R113. -/
def execTeqShiftImm (cond : CondField) (rn : RegField) (shiftImm : ShiftImmField) (shift : ShiftField) (rm : RegField)
    (st : State) : Answer :=
  st.drive cond (.teq (reg rn) (op2ShiftImm shiftImm shift rm))

/-- Row 28, format DP-SR: `Teq` by R113. -/
def execTeqShiftReg (cond : CondField) (rn rs : RegField) (shift : ShiftField) (rm : RegField) (st : State) : Answer :=
  st.drive cond (.teq (reg rn) (op2ShiftReg rs shift rm))

/-- Row 29, format DP-I: `Teq` by R113. -/
def execTeqRotImm (cond : CondField) (rn : RegField) (rotate : RotateField) (imm8 : Imm8Field) (st : State) : Answer :=
  st.drive cond (.teq (reg rn) (op2Imm rotate imm8))

/-- Row 30, format DP-SI: `Cmp` by R114. -/
def execCmpShiftImm (cond : CondField) (rn : RegField) (shiftImm : ShiftImmField) (shift : ShiftField) (rm : RegField)
    (st : State) : Answer :=
  st.drive cond (.cmp (reg rn) (op2ShiftImm shiftImm shift rm))

/-- Row 31, format DP-SR: `Cmp` by R114. -/
def execCmpShiftReg (cond : CondField) (rn rs : RegField) (shift : ShiftField) (rm : RegField) (st : State) : Answer :=
  st.drive cond (.cmp (reg rn) (op2ShiftReg rs shift rm))

/-- Row 32, format DP-I: `Cmp` by R114. -/
def execCmpRotImm (cond : CondField) (rn : RegField) (rotate : RotateField) (imm8 : Imm8Field) (st : State) : Answer :=
  st.drive cond (.cmp (reg rn) (op2Imm rotate imm8))

/-- Row 33, format DP-SI: `Cmn` by R115. -/
def execCmnShiftImm (cond : CondField) (rn : RegField) (shiftImm : ShiftImmField) (shift : ShiftField) (rm : RegField)
    (st : State) : Answer :=
  st.drive cond (.cmn (reg rn) (op2ShiftImm shiftImm shift rm))

/-- Row 34, format DP-SR: `Cmn` by R115. -/
def execCmnShiftReg (cond : CondField) (rn rs : RegField) (shift : ShiftField) (rm : RegField) (st : State) : Answer :=
  st.drive cond (.cmn (reg rn) (op2ShiftReg rs shift rm))

/-- Row 35, format DP-I: `Cmn` by R115. -/
def execCmnRotImm (cond : CondField) (rn : RegField) (rotate : RotateField) (imm8 : Imm8Field) (st : State) : Answer :=
  st.drive cond (.cmn (reg rn) (op2Imm rotate imm8))

/-- Row 36, format DP-SI: `Orr` by R116. -/
def execOrrShiftImm (cond : CondField) (sf : Bool) (rn rd : RegField) (shiftImm : ShiftImmField) (shift : ShiftField)
    (rm : RegField) (st : State) : Answer :=
  st.drive cond (.orr sf (reg rd) (reg rn) (op2ShiftImm shiftImm shift rm))

/-- Row 37, format DP-SR: `Orr` by R116. -/
def execOrrShiftReg (cond : CondField) (sf : Bool) (rn rd rs : RegField) (shift : ShiftField) (rm : RegField)
    (st : State) : Answer :=
  st.drive cond (.orr sf (reg rd) (reg rn) (op2ShiftReg rs shift rm))

/-- Row 38, format DP-I: `Orr` by R116. -/
def execOrrRotImm (cond : CondField) (sf : Bool) (rn rd : RegField) (rotate : RotateField) (imm8 : Imm8Field)
    (st : State) : Answer :=
  st.drive cond (.orr sf (reg rd) (reg rn) (op2Imm rotate imm8))

/-- Row 39, format DP-SI: `Mov` by R117. -/
def execMovShiftImm (cond : CondField) (sf : Bool) (rd : RegField) (shiftImm : ShiftImmField) (shift : ShiftField)
    (rm : RegField) (st : State) : Answer :=
  st.drive cond (.mov sf (reg rd) (op2ShiftImm shiftImm shift rm))

/-- Row 40, format DP-SR: `Mov` by R117. -/
def execMovShiftReg (cond : CondField) (sf : Bool) (rd rs : RegField) (shift : ShiftField) (rm : RegField)
    (st : State) : Answer :=
  st.drive cond (.mov sf (reg rd) (op2ShiftReg rs shift rm))

/-- Row 41, format DP-I: `Mov` by R117. -/
def execMovRotImm (cond : CondField) (sf : Bool) (rd : RegField) (rotate : RotateField) (imm8 : Imm8Field)
    (st : State) : Answer :=
  st.drive cond (.mov sf (reg rd) (op2Imm rotate imm8))

/-- Row 42, format DP-SI: `Bic` by R118. -/
def execBicShiftImm (cond : CondField) (sf : Bool) (rn rd : RegField) (shiftImm : ShiftImmField) (shift : ShiftField)
    (rm : RegField) (st : State) : Answer :=
  st.drive cond (.bic sf (reg rd) (reg rn) (op2ShiftImm shiftImm shift rm))

/-- Row 43, format DP-SR: `Bic` by R118. -/
def execBicShiftReg (cond : CondField) (sf : Bool) (rn rd rs : RegField) (shift : ShiftField) (rm : RegField)
    (st : State) : Answer :=
  st.drive cond (.bic sf (reg rd) (reg rn) (op2ShiftReg rs shift rm))

/-- Row 44, format DP-I: `Bic` by R118. -/
def execBicRotImm (cond : CondField) (sf : Bool) (rn rd : RegField) (rotate : RotateField) (imm8 : Imm8Field)
    (st : State) : Answer :=
  st.drive cond (.bic sf (reg rd) (reg rn) (op2Imm rotate imm8))

/-- Row 45, format DP-SI: `Mvn` by R119. -/
def execMvnShiftImm (cond : CondField) (sf : Bool) (rd : RegField) (shiftImm : ShiftImmField) (shift : ShiftField)
    (rm : RegField) (st : State) : Answer :=
  st.drive cond (.mvn sf (reg rd) (op2ShiftImm shiftImm shift rm))

/-- Row 46, format DP-SR: `Mvn` by R119. -/
def execMvnShiftReg (cond : CondField) (sf : Bool) (rd rs : RegField) (shift : ShiftField) (rm : RegField)
    (st : State) : Answer :=
  st.drive cond (.mvn sf (reg rd) (op2ShiftReg rs shift rm))

/-- Row 47, format DP-I: `Mvn` by R119. -/
def execMvnRotImm (cond : CondField) (sf : Bool) (rd : RegField) (rotate : RotateField) (imm8 : Imm8Field)
    (st : State) : Answer :=
  st.drive cond (.mvn sf (reg rd) (op2Imm rotate imm8))

end Sys2Proof.Machine
end

