-- ==== Sys2Proof/Machine/MiscPsr.lean ====
section
/-! DEFINITION. The PSR-transfer family and branch-and-exchange (spec/41_misc_psr.md R141 to R143, R145). The block reads and
writes no PSR and checks no mode (spec/60_exceptions.md R226): it names the PSR by the raw bit `r` (R146) and the lanes by the
mask. The constructor `MsrImm` and its operand order are decision D7 (notes/assumptions/11.md). -/

namespace Sys2Proof.Machine

/-- Row 48, format MRS: `Mrs` by R141. -/
def execMrs (cond : CondField) (r : Bool) (rd : RegField) (st : State) : Answer :=
  st.drive cond (.mrs (reg rd) r)

/-- Row 49, format MSR-R: `Msr` by R142. -/
def execMsr (cond : CondField) (r : Bool) (mask : MaskField) (rm : RegField) (st : State) : Answer :=
  st.drive cond (.msr (reg rm) r (maskOf mask))

/-- Row 50, format BX: `Bx` by R143. -/
def execBx (cond : CondField) (rm : RegField) (st : State) : Answer :=
  st.drive cond (.bx (reg rm))

/-- Row 72, format MSR-I: `MsrImm` by R145. -/
def execMsrImm (cond : CondField) (r : Bool) (mask : MaskField) (rotate : RotateField) (imm8 : Imm8Field)
    (st : State) : Answer :=
  st.drive cond (.msrImm r (maskOf mask) (op2Imm rotate imm8))

end Sys2Proof.Machine
end

