-- ==== Sys2Proof/Machine/Transfer.lean ====
section
/-! DEFINITION. The single data transfer family (spec/42_single_data_transfer.md): every row drives its own constructor
with the Mode2 value of R160, R161 and R163. `byte` and `l` have no part in that value: they select the row. The block computes
no address and performs no access (R164, R174). -/

namespace Sys2Proof.Machine

/-- Row 74, format SDT-I: `Ldr` by R165 (p = 1 (offset or pre-indexed)). -/
def execLdrImmP1 (cond : CondField) (p u _byte wb _l : Bool) (rn rd : RegField) (imm12 : Imm12Field)
    (st : State) : Answer :=
  st.drive cond (.ldr (reg rd) (mode2 p u wb rn (offsetImm imm12)))

/-- Row 75, format SDT-I: `Ldr` by R165 (p = 0, wb = 0 (post-indexed)). -/
def execLdrImmP0 (cond : CondField) (p u _byte wb _l : Bool) (rn rd : RegField) (imm12 : Imm12Field)
    (st : State) : Answer :=
  st.drive cond (.ldr (reg rd) (mode2 p u wb rn (offsetImm imm12)))

/-- Row 76, format SDT-I: `Ldrt` by R169 (p = 0, wb = 1: the T override). -/
def execLdrtImm (cond : CondField) (p u _byte wb _l : Bool) (rn rd : RegField) (imm12 : Imm12Field) (st : State) : Answer :=
  st.drive cond (.ldrt (reg rd) (mode2 p u wb rn (offsetImm imm12)))

/-- Row 77, format SDT-I: `Str` by R166 (p = 1 (offset or pre-indexed)). -/
def execStrImmP1 (cond : CondField) (p u _byte wb _l : Bool) (rn rd : RegField) (imm12 : Imm12Field)
    (st : State) : Answer :=
  st.drive cond (.str (reg rd) (mode2 p u wb rn (offsetImm imm12)))

/-- Row 78, format SDT-I: `Str` by R166 (p = 0, wb = 0 (post-indexed)). -/
def execStrImmP0 (cond : CondField) (p u _byte wb _l : Bool) (rn rd : RegField) (imm12 : Imm12Field)
    (st : State) : Answer :=
  st.drive cond (.str (reg rd) (mode2 p u wb rn (offsetImm imm12)))

/-- Row 79, format SDT-I: `Strt` by R170 (p = 0, wb = 1: the T override). -/
def execStrtImm (cond : CondField) (p u _byte wb _l : Bool) (rn rd : RegField) (imm12 : Imm12Field) (st : State) : Answer :=
  st.drive cond (.strt (reg rd) (mode2 p u wb rn (offsetImm imm12)))

/-- Row 80, format SDT-I: `Ldrb` by R167 (p = 1 (offset or pre-indexed)). -/
def execLdrbImmP1 (cond : CondField) (p u _byte wb _l : Bool) (rn rd : RegField) (imm12 : Imm12Field)
    (st : State) : Answer :=
  st.drive cond (.ldrb (reg rd) (mode2 p u wb rn (offsetImm imm12)))

/-- Row 81, format SDT-I: `Ldrb` by R167 (p = 0, wb = 0 (post-indexed)). -/
def execLdrbImmP0 (cond : CondField) (p u _byte wb _l : Bool) (rn rd : RegField) (imm12 : Imm12Field)
    (st : State) : Answer :=
  st.drive cond (.ldrb (reg rd) (mode2 p u wb rn (offsetImm imm12)))

/-- Row 82, format SDT-I: `Ldrbt` by R171 (p = 0, wb = 1: the T override). -/
def execLdrbtImm (cond : CondField) (p u _byte wb _l : Bool) (rn rd : RegField) (imm12 : Imm12Field)
    (st : State) : Answer :=
  st.drive cond (.ldrbt (reg rd) (mode2 p u wb rn (offsetImm imm12)))

/-- Row 83, format SDT-I: `Strb` by R168 (p = 1 (offset or pre-indexed)). -/
def execStrbImmP1 (cond : CondField) (p u _byte wb _l : Bool) (rn rd : RegField) (imm12 : Imm12Field)
    (st : State) : Answer :=
  st.drive cond (.strb (reg rd) (mode2 p u wb rn (offsetImm imm12)))

/-- Row 84, format SDT-I: `Strb` by R168 (p = 0, wb = 0 (post-indexed)). -/
def execStrbImmP0 (cond : CondField) (p u _byte wb _l : Bool) (rn rd : RegField) (imm12 : Imm12Field)
    (st : State) : Answer :=
  st.drive cond (.strb (reg rd) (mode2 p u wb rn (offsetImm imm12)))

/-- Row 85, format SDT-I: `Strbt` by R172 (p = 0, wb = 1: the T override). -/
def execStrbtImm (cond : CondField) (p u _byte wb _l : Bool) (rn rd : RegField) (imm12 : Imm12Field)
    (st : State) : Answer :=
  st.drive cond (.strbt (reg rd) (mode2 p u wb rn (offsetImm imm12)))

/-- Row 86, format SDT-R: `Ldr` by R165 (p = 1 (offset or pre-indexed)). -/
def execLdrRegP1 (cond : CondField) (p u _byte wb _l : Bool) (rn rd : RegField) (shiftImm : ShiftImmField)
    (shift : ShiftField) (rm : RegField) (st : State) : Answer :=
  st.drive cond (.ldr (reg rd) (mode2 p u wb rn (offsetReg shiftImm shift rm)))

/-- Row 87, format SDT-R: `Ldr` by R165 (p = 0, wb = 0 (post-indexed)). -/
def execLdrRegP0 (cond : CondField) (p u _byte wb _l : Bool) (rn rd : RegField) (shiftImm : ShiftImmField)
    (shift : ShiftField) (rm : RegField) (st : State) : Answer :=
  st.drive cond (.ldr (reg rd) (mode2 p u wb rn (offsetReg shiftImm shift rm)))

/-- Row 88, format SDT-R: `Ldrt` by R169 (p = 0, wb = 1: the T override). -/
def execLdrtReg (cond : CondField) (p u _byte wb _l : Bool) (rn rd : RegField) (shiftImm : ShiftImmField)
    (shift : ShiftField) (rm : RegField) (st : State) : Answer :=
  st.drive cond (.ldrt (reg rd) (mode2 p u wb rn (offsetReg shiftImm shift rm)))

/-- Row 89, format SDT-R: `Str` by R166 (p = 1 (offset or pre-indexed)). -/
def execStrRegP1 (cond : CondField) (p u _byte wb _l : Bool) (rn rd : RegField) (shiftImm : ShiftImmField)
    (shift : ShiftField) (rm : RegField) (st : State) : Answer :=
  st.drive cond (.str (reg rd) (mode2 p u wb rn (offsetReg shiftImm shift rm)))

/-- Row 90, format SDT-R: `Str` by R166 (p = 0, wb = 0 (post-indexed)). -/
def execStrRegP0 (cond : CondField) (p u _byte wb _l : Bool) (rn rd : RegField) (shiftImm : ShiftImmField)
    (shift : ShiftField) (rm : RegField) (st : State) : Answer :=
  st.drive cond (.str (reg rd) (mode2 p u wb rn (offsetReg shiftImm shift rm)))

/-- Row 91, format SDT-R: `Strt` by R170 (p = 0, wb = 1: the T override). -/
def execStrtReg (cond : CondField) (p u _byte wb _l : Bool) (rn rd : RegField) (shiftImm : ShiftImmField)
    (shift : ShiftField) (rm : RegField) (st : State) : Answer :=
  st.drive cond (.strt (reg rd) (mode2 p u wb rn (offsetReg shiftImm shift rm)))

/-- Row 92, format SDT-R: `Ldrb` by R167 (p = 1 (offset or pre-indexed)). -/
def execLdrbRegP1 (cond : CondField) (p u _byte wb _l : Bool) (rn rd : RegField) (shiftImm : ShiftImmField)
    (shift : ShiftField) (rm : RegField) (st : State) : Answer :=
  st.drive cond (.ldrb (reg rd) (mode2 p u wb rn (offsetReg shiftImm shift rm)))

/-- Row 93, format SDT-R: `Ldrb` by R167 (p = 0, wb = 0 (post-indexed)). -/
def execLdrbRegP0 (cond : CondField) (p u _byte wb _l : Bool) (rn rd : RegField) (shiftImm : ShiftImmField)
    (shift : ShiftField) (rm : RegField) (st : State) : Answer :=
  st.drive cond (.ldrb (reg rd) (mode2 p u wb rn (offsetReg shiftImm shift rm)))

/-- Row 94, format SDT-R: `Ldrbt` by R171 (p = 0, wb = 1: the T override). -/
def execLdrbtReg (cond : CondField) (p u _byte wb _l : Bool) (rn rd : RegField) (shiftImm : ShiftImmField)
    (shift : ShiftField) (rm : RegField) (st : State) : Answer :=
  st.drive cond (.ldrbt (reg rd) (mode2 p u wb rn (offsetReg shiftImm shift rm)))

/-- Row 95, format SDT-R: `Strb` by R168 (p = 1 (offset or pre-indexed)). -/
def execStrbRegP1 (cond : CondField) (p u _byte wb _l : Bool) (rn rd : RegField) (shiftImm : ShiftImmField)
    (shift : ShiftField) (rm : RegField) (st : State) : Answer :=
  st.drive cond (.strb (reg rd) (mode2 p u wb rn (offsetReg shiftImm shift rm)))

/-- Row 96, format SDT-R: `Strb` by R168 (p = 0, wb = 0 (post-indexed)). -/
def execStrbRegP0 (cond : CondField) (p u _byte wb _l : Bool) (rn rd : RegField) (shiftImm : ShiftImmField)
    (shift : ShiftField) (rm : RegField) (st : State) : Answer :=
  st.drive cond (.strb (reg rd) (mode2 p u wb rn (offsetReg shiftImm shift rm)))

/-- Row 97, format SDT-R: `Strbt` by R172 (p = 0, wb = 1: the T override). -/
def execStrbtReg (cond : CondField) (p u _byte wb _l : Bool) (rn rd : RegField) (shiftImm : ShiftImmField)
    (shift : ShiftField) (rm : RegField) (st : State) : Answer :=
  st.drive cond (.strbt (reg rd) (mode2 p u wb rn (offsetReg shiftImm shift rm)))

end Sys2Proof.Machine
end

