-- ==== Sys2Proof/Machine/Undefined.lean ====
section
/-! DEFINITION. The undefined and the unresolved space (spec/44_undefined_unresolved.md). `Undefined` is an ordinary output
value with its condition decoded (R200); the multiply and extended load-store path has no value and is refused by name
(R202; notes/assumptions/4.md). -/

namespace Sys2Proof.Machine

/-- Row 51, format MISC-UNDEF: `Undefined` by R144 (miscellaneous space, hi = 0, w[7:4] = 0x1). -/
def execUndefMiscHi0Lo1 (cond : CondField) (st : State) : Answer :=
  st.drive cond .undefined

/-- Row 52, format MISC-UNDEF: `Undefined` by R144 (miscellaneous space, hi = 0, w[7:4] = 0x2). -/
def execUndefMiscHi0Lo2 (cond : CondField) (st : State) : Answer :=
  st.drive cond .undefined

/-- Row 53, format MISC-UNDEF: `Undefined` by R144 (miscellaneous space, hi = 0, w[7:4] = 0x3). -/
def execUndefMiscHi0Lo3 (cond : CondField) (st : State) : Answer :=
  st.drive cond .undefined

/-- Row 54, format MISC-UNDEF: `Undefined` by R144 (miscellaneous space, hi = 0, w[7:4] = 0x4). -/
def execUndefMiscHi0Lo4 (cond : CondField) (st : State) : Answer :=
  st.drive cond .undefined

/-- Row 55, format MISC-UNDEF: `Undefined` by R144 (miscellaneous space, hi = 0, w[7:4] = 0x5). -/
def execUndefMiscHi0Lo5 (cond : CondField) (st : State) : Answer :=
  st.drive cond .undefined

/-- Row 56, format MISC-UNDEF: `Undefined` by R144 (miscellaneous space, hi = 0, w[7:4] = 0x6). -/
def execUndefMiscHi0Lo6 (cond : CondField) (st : State) : Answer :=
  st.drive cond .undefined

/-- Row 57, format MISC-UNDEF: `Undefined` by R144 (miscellaneous space, hi = 0, w[7:4] = 0x7). -/
def execUndefMiscHi0Lo7 (cond : CondField) (st : State) : Answer :=
  st.drive cond .undefined

/-- Row 58, format MISC-UNDEF: `Undefined` by R144 (miscellaneous space, hi = 0, w[7:4] = 0x8). -/
def execUndefMiscHi0Lo8 (cond : CondField) (st : State) : Answer :=
  st.drive cond .undefined

/-- Row 59, format MISC-UNDEF: `Undefined` by R144 (miscellaneous space, hi = 0, w[7:4] = 0xA). -/
def execUndefMiscHi0LoA (cond : CondField) (st : State) : Answer :=
  st.drive cond .undefined

/-- Row 60, format MISC-UNDEF: `Undefined` by R144 (miscellaneous space, hi = 0, w[7:4] = 0xC). -/
def execUndefMiscHi0LoC (cond : CondField) (st : State) : Answer :=
  st.drive cond .undefined

/-- Row 61, format MISC-UNDEF: `Undefined` by R144 (miscellaneous space, hi = 0, w[7:4] = 0xE). -/
def execUndefMiscHi0LoE (cond : CondField) (st : State) : Answer :=
  st.drive cond .undefined

/-- Row 62, format MISC-UNDEF: `Undefined` by R144 (miscellaneous space, hi = 1, w[7:4] = 0x2). -/
def execUndefMiscHi1Lo2 (cond : CondField) (st : State) : Answer :=
  st.drive cond .undefined

/-- Row 63, format MISC-UNDEF: `Undefined` by R144 (miscellaneous space, hi = 1, w[7:4] = 0x3). -/
def execUndefMiscHi1Lo3 (cond : CondField) (st : State) : Answer :=
  st.drive cond .undefined

/-- Row 64, format MISC-UNDEF: `Undefined` by R144 (miscellaneous space, hi = 1, w[7:4] = 0x4). -/
def execUndefMiscHi1Lo4 (cond : CondField) (st : State) : Answer :=
  st.drive cond .undefined

/-- Row 65, format MISC-UNDEF: `Undefined` by R144 (miscellaneous space, hi = 1, w[7:4] = 0x5). -/
def execUndefMiscHi1Lo5 (cond : CondField) (st : State) : Answer :=
  st.drive cond .undefined

/-- Row 66, format MISC-UNDEF: `Undefined` by R144 (miscellaneous space, hi = 1, w[7:4] = 0x6). -/
def execUndefMiscHi1Lo6 (cond : CondField) (st : State) : Answer :=
  st.drive cond .undefined

/-- Row 67, format MISC-UNDEF: `Undefined` by R144 (miscellaneous space, hi = 1, w[7:4] = 0x7). -/
def execUndefMiscHi1Lo7 (cond : CondField) (st : State) : Answer :=
  st.drive cond .undefined

/-- Row 68, format MISC-UNDEF: `Undefined` by R144 (miscellaneous space, hi = 1, w[7:4] = 0x8). -/
def execUndefMiscHi1Lo8 (cond : CondField) (st : State) : Answer :=
  st.drive cond .undefined

/-- Row 69, format MISC-UNDEF: `Undefined` by R144 (miscellaneous space, hi = 1, w[7:4] = 0xA). -/
def execUndefMiscHi1LoA (cond : CondField) (st : State) : Answer :=
  st.drive cond .undefined

/-- Row 70, format MISC-UNDEF: `Undefined` by R144 (miscellaneous space, hi = 1, w[7:4] = 0xC). -/
def execUndefMiscHi1LoC (cond : CondField) (st : State) : Answer :=
  st.drive cond .undefined

/-- Row 71, format MISC-UNDEF: `Undefined` by R144 (miscellaneous space, hi = 1, w[7:4] = 0xE). -/
def execUndefMiscHi1LoE (cond : CondField) (st : State) : Answer :=
  st.drive cond .undefined

/-- Row 73, format M1-UNDEF: `Undefined` by R201 (major 1, s = 0, op_hi, op_lo = 0). -/
def execUndefMajor1Band (cond : CondField) (st : State) : Answer :=
  st.drive cond .undefined

/-- Row 98, format M3-UNDEF: `Undefined` by R201 (major 3 with bit 4 set, reserved encoding space). -/
def execUndefMajor3Bit4 (cond : CondField) (st : State) : Answer :=
  st.drive cond .undefined

/-- Row 101, format MAJ-UNDEF: `Undefined` by R203 (major 4, every word). -/
def execUndefMajor4 (cond : CondField) (st : State) : Answer :=
  st.drive cond .undefined

/-- Row 102, format MAJ-UNDEF: `Undefined` by R203 (major 6, every word). -/
def execUndefMajor6 (cond : CondField) (st : State) : Answer :=
  st.drive cond .undefined

/-- Row 103, format MAJ-UNDEF: `Undefined` by R203 (major 7, every word). -/
def execUndefMajor7 (cond : CondField) (st : State) : Answer :=
  st.drive cond .undefined

/-- Row 104, format UNRESOLVED: `Unresolved(MultiplyExtendedLoadStore)` by R202. -/
def execUnresolvedMultiplyExtendedLoadStore (_cond : CondField) (st : State) : Answer :=
  st.refuse .multiplyExtendedLoadStore

end Sys2Proof.Machine
end

