-- ==== Sys2Proof/Machine/Dispatch.lean ====
section
/-! DEFINITION. One arm per instruction. -/

namespace Sys2Proof.Machine

def exec (i : Instr) (s : State) : Host.Outcome State Fault Refusal :=
  match i with
  | .andShiftImm cond sf rn rd shiftImm shift rm => Sys2Proof.Machine.execAndShiftImm cond sf rn rd shiftImm shift rm s
  | .andShiftReg cond sf rn rd rs shift rm => Sys2Proof.Machine.execAndShiftReg cond sf rn rd rs shift rm s
  | .andRotImm cond sf rn rd rotate imm8 => Sys2Proof.Machine.execAndRotImm cond sf rn rd rotate imm8 s
  | .eorShiftImm cond sf rn rd shiftImm shift rm => Sys2Proof.Machine.execEorShiftImm cond sf rn rd shiftImm shift rm s
  | .eorShiftReg cond sf rn rd rs shift rm => Sys2Proof.Machine.execEorShiftReg cond sf rn rd rs shift rm s
  | .eorRotImm cond sf rn rd rotate imm8 => Sys2Proof.Machine.execEorRotImm cond sf rn rd rotate imm8 s
  | .subShiftImm cond sf rn rd shiftImm shift rm => Sys2Proof.Machine.execSubShiftImm cond sf rn rd shiftImm shift rm s
  | .subShiftReg cond sf rn rd rs shift rm => Sys2Proof.Machine.execSubShiftReg cond sf rn rd rs shift rm s
  | .subRotImm cond sf rn rd rotate imm8 => Sys2Proof.Machine.execSubRotImm cond sf rn rd rotate imm8 s
  | .rsbShiftImm cond sf rn rd shiftImm shift rm => Sys2Proof.Machine.execRsbShiftImm cond sf rn rd shiftImm shift rm s
  | .rsbShiftReg cond sf rn rd rs shift rm => Sys2Proof.Machine.execRsbShiftReg cond sf rn rd rs shift rm s
  | .rsbRotImm cond sf rn rd rotate imm8 => Sys2Proof.Machine.execRsbRotImm cond sf rn rd rotate imm8 s
  | .addShiftImm cond sf rn rd shiftImm shift rm => Sys2Proof.Machine.execAddShiftImm cond sf rn rd shiftImm shift rm s
  | .addShiftReg cond sf rn rd rs shift rm => Sys2Proof.Machine.execAddShiftReg cond sf rn rd rs shift rm s
  | .addRotImm cond sf rn rd rotate imm8 => Sys2Proof.Machine.execAddRotImm cond sf rn rd rotate imm8 s
  | .adcShiftImm cond sf rn rd shiftImm shift rm => Sys2Proof.Machine.execAdcShiftImm cond sf rn rd shiftImm shift rm s
  | .adcShiftReg cond sf rn rd rs shift rm => Sys2Proof.Machine.execAdcShiftReg cond sf rn rd rs shift rm s
  | .adcRotImm cond sf rn rd rotate imm8 => Sys2Proof.Machine.execAdcRotImm cond sf rn rd rotate imm8 s
  | .sbcShiftImm cond sf rn rd shiftImm shift rm => Sys2Proof.Machine.execSbcShiftImm cond sf rn rd shiftImm shift rm s
  | .sbcShiftReg cond sf rn rd rs shift rm => Sys2Proof.Machine.execSbcShiftReg cond sf rn rd rs shift rm s
  | .sbcRotImm cond sf rn rd rotate imm8 => Sys2Proof.Machine.execSbcRotImm cond sf rn rd rotate imm8 s
  | .rscShiftImm cond sf rn rd shiftImm shift rm => Sys2Proof.Machine.execRscShiftImm cond sf rn rd shiftImm shift rm s
  | .rscShiftReg cond sf rn rd rs shift rm => Sys2Proof.Machine.execRscShiftReg cond sf rn rd rs shift rm s
  | .rscRotImm cond sf rn rd rotate imm8 => Sys2Proof.Machine.execRscRotImm cond sf rn rd rotate imm8 s
  | .tstShiftImm cond rn shiftImm shift rm => Sys2Proof.Machine.execTstShiftImm cond rn shiftImm shift rm s
  | .tstShiftReg cond rn rs shift rm => Sys2Proof.Machine.execTstShiftReg cond rn rs shift rm s
  | .tstRotImm cond rn rotate imm8 => Sys2Proof.Machine.execTstRotImm cond rn rotate imm8 s
  | .teqShiftImm cond rn shiftImm shift rm => Sys2Proof.Machine.execTeqShiftImm cond rn shiftImm shift rm s
  | .teqShiftReg cond rn rs shift rm => Sys2Proof.Machine.execTeqShiftReg cond rn rs shift rm s
  | .teqRotImm cond rn rotate imm8 => Sys2Proof.Machine.execTeqRotImm cond rn rotate imm8 s
  | .cmpShiftImm cond rn shiftImm shift rm => Sys2Proof.Machine.execCmpShiftImm cond rn shiftImm shift rm s
  | .cmpShiftReg cond rn rs shift rm => Sys2Proof.Machine.execCmpShiftReg cond rn rs shift rm s
  | .cmpRotImm cond rn rotate imm8 => Sys2Proof.Machine.execCmpRotImm cond rn rotate imm8 s
  | .cmnShiftImm cond rn shiftImm shift rm => Sys2Proof.Machine.execCmnShiftImm cond rn shiftImm shift rm s
  | .cmnShiftReg cond rn rs shift rm => Sys2Proof.Machine.execCmnShiftReg cond rn rs shift rm s
  | .cmnRotImm cond rn rotate imm8 => Sys2Proof.Machine.execCmnRotImm cond rn rotate imm8 s
  | .orrShiftImm cond sf rn rd shiftImm shift rm => Sys2Proof.Machine.execOrrShiftImm cond sf rn rd shiftImm shift rm s
  | .orrShiftReg cond sf rn rd rs shift rm => Sys2Proof.Machine.execOrrShiftReg cond sf rn rd rs shift rm s
  | .orrRotImm cond sf rn rd rotate imm8 => Sys2Proof.Machine.execOrrRotImm cond sf rn rd rotate imm8 s
  | .movShiftImm cond sf rd shiftImm shift rm => Sys2Proof.Machine.execMovShiftImm cond sf rd shiftImm shift rm s
  | .movShiftReg cond sf rd rs shift rm => Sys2Proof.Machine.execMovShiftReg cond sf rd rs shift rm s
  | .movRotImm cond sf rd rotate imm8 => Sys2Proof.Machine.execMovRotImm cond sf rd rotate imm8 s
  | .bicShiftImm cond sf rn rd shiftImm shift rm => Sys2Proof.Machine.execBicShiftImm cond sf rn rd shiftImm shift rm s
  | .bicShiftReg cond sf rn rd rs shift rm => Sys2Proof.Machine.execBicShiftReg cond sf rn rd rs shift rm s
  | .bicRotImm cond sf rn rd rotate imm8 => Sys2Proof.Machine.execBicRotImm cond sf rn rd rotate imm8 s
  | .mvnShiftImm cond sf rd shiftImm shift rm => Sys2Proof.Machine.execMvnShiftImm cond sf rd shiftImm shift rm s
  | .mvnShiftReg cond sf rd rs shift rm => Sys2Proof.Machine.execMvnShiftReg cond sf rd rs shift rm s
  | .mvnRotImm cond sf rd rotate imm8 => Sys2Proof.Machine.execMvnRotImm cond sf rd rotate imm8 s
  | .mrs cond r rd => Sys2Proof.Machine.execMrs cond r rd s
  | .msr cond r mask rm => Sys2Proof.Machine.execMsr cond r mask rm s
  | .bx cond rm => Sys2Proof.Machine.execBx cond rm s
  | .undefMiscHi0Lo1 cond => Sys2Proof.Machine.execUndefMiscHi0Lo1 cond s
  | .undefMiscHi0Lo2 cond => Sys2Proof.Machine.execUndefMiscHi0Lo2 cond s
  | .undefMiscHi0Lo3 cond => Sys2Proof.Machine.execUndefMiscHi0Lo3 cond s
  | .undefMiscHi0Lo4 cond => Sys2Proof.Machine.execUndefMiscHi0Lo4 cond s
  | .undefMiscHi0Lo5 cond => Sys2Proof.Machine.execUndefMiscHi0Lo5 cond s
  | .undefMiscHi0Lo6 cond => Sys2Proof.Machine.execUndefMiscHi0Lo6 cond s
  | .undefMiscHi0Lo7 cond => Sys2Proof.Machine.execUndefMiscHi0Lo7 cond s
  | .undefMiscHi0Lo8 cond => Sys2Proof.Machine.execUndefMiscHi0Lo8 cond s
  | .undefMiscHi0LoA cond => Sys2Proof.Machine.execUndefMiscHi0LoA cond s
  | .undefMiscHi0LoC cond => Sys2Proof.Machine.execUndefMiscHi0LoC cond s
  | .undefMiscHi0LoE cond => Sys2Proof.Machine.execUndefMiscHi0LoE cond s
  | .undefMiscHi1Lo2 cond => Sys2Proof.Machine.execUndefMiscHi1Lo2 cond s
  | .undefMiscHi1Lo3 cond => Sys2Proof.Machine.execUndefMiscHi1Lo3 cond s
  | .undefMiscHi1Lo4 cond => Sys2Proof.Machine.execUndefMiscHi1Lo4 cond s
  | .undefMiscHi1Lo5 cond => Sys2Proof.Machine.execUndefMiscHi1Lo5 cond s
  | .undefMiscHi1Lo6 cond => Sys2Proof.Machine.execUndefMiscHi1Lo6 cond s
  | .undefMiscHi1Lo7 cond => Sys2Proof.Machine.execUndefMiscHi1Lo7 cond s
  | .undefMiscHi1Lo8 cond => Sys2Proof.Machine.execUndefMiscHi1Lo8 cond s
  | .undefMiscHi1LoA cond => Sys2Proof.Machine.execUndefMiscHi1LoA cond s
  | .undefMiscHi1LoC cond => Sys2Proof.Machine.execUndefMiscHi1LoC cond s
  | .undefMiscHi1LoE cond => Sys2Proof.Machine.execUndefMiscHi1LoE cond s
  | .msrImm cond r mask rotate imm8 => Sys2Proof.Machine.execMsrImm cond r mask rotate imm8 s
  | .undefMajor1Band cond => Sys2Proof.Machine.execUndefMajor1Band cond s
  | .ldrImmP1 cond p u byte wb l rn rd imm12 => Sys2Proof.Machine.execLdrImmP1 cond p u byte wb l rn rd imm12 s
  | .ldrImmP0 cond p u byte wb l rn rd imm12 => Sys2Proof.Machine.execLdrImmP0 cond p u byte wb l rn rd imm12 s
  | .ldrtImm cond p u byte wb l rn rd imm12 => Sys2Proof.Machine.execLdrtImm cond p u byte wb l rn rd imm12 s
  | .strImmP1 cond p u byte wb l rn rd imm12 => Sys2Proof.Machine.execStrImmP1 cond p u byte wb l rn rd imm12 s
  | .strImmP0 cond p u byte wb l rn rd imm12 => Sys2Proof.Machine.execStrImmP0 cond p u byte wb l rn rd imm12 s
  | .strtImm cond p u byte wb l rn rd imm12 => Sys2Proof.Machine.execStrtImm cond p u byte wb l rn rd imm12 s
  | .ldrbImmP1 cond p u byte wb l rn rd imm12 => Sys2Proof.Machine.execLdrbImmP1 cond p u byte wb l rn rd imm12 s
  | .ldrbImmP0 cond p u byte wb l rn rd imm12 => Sys2Proof.Machine.execLdrbImmP0 cond p u byte wb l rn rd imm12 s
  | .ldrbtImm cond p u byte wb l rn rd imm12 => Sys2Proof.Machine.execLdrbtImm cond p u byte wb l rn rd imm12 s
  | .strbImmP1 cond p u byte wb l rn rd imm12 => Sys2Proof.Machine.execStrbImmP1 cond p u byte wb l rn rd imm12 s
  | .strbImmP0 cond p u byte wb l rn rd imm12 => Sys2Proof.Machine.execStrbImmP0 cond p u byte wb l rn rd imm12 s
  | .strbtImm cond p u byte wb l rn rd imm12 => Sys2Proof.Machine.execStrbtImm cond p u byte wb l rn rd imm12 s
  | .ldrRegP1 cond p u byte wb l rn rd shiftImm shift rm => Sys2Proof.Machine.execLdrRegP1 cond p u byte wb l rn rd shiftImm shift rm s
  | .ldrRegP0 cond p u byte wb l rn rd shiftImm shift rm => Sys2Proof.Machine.execLdrRegP0 cond p u byte wb l rn rd shiftImm shift rm s
  | .ldrtReg cond p u byte wb l rn rd shiftImm shift rm => Sys2Proof.Machine.execLdrtReg cond p u byte wb l rn rd shiftImm shift rm s
  | .strRegP1 cond p u byte wb l rn rd shiftImm shift rm => Sys2Proof.Machine.execStrRegP1 cond p u byte wb l rn rd shiftImm shift rm s
  | .strRegP0 cond p u byte wb l rn rd shiftImm shift rm => Sys2Proof.Machine.execStrRegP0 cond p u byte wb l rn rd shiftImm shift rm s
  | .strtReg cond p u byte wb l rn rd shiftImm shift rm => Sys2Proof.Machine.execStrtReg cond p u byte wb l rn rd shiftImm shift rm s
  | .ldrbRegP1 cond p u byte wb l rn rd shiftImm shift rm => Sys2Proof.Machine.execLdrbRegP1 cond p u byte wb l rn rd shiftImm shift rm s
  | .ldrbRegP0 cond p u byte wb l rn rd shiftImm shift rm => Sys2Proof.Machine.execLdrbRegP0 cond p u byte wb l rn rd shiftImm shift rm s
  | .ldrbtReg cond p u byte wb l rn rd shiftImm shift rm => Sys2Proof.Machine.execLdrbtReg cond p u byte wb l rn rd shiftImm shift rm s
  | .strbRegP1 cond p u byte wb l rn rd shiftImm shift rm => Sys2Proof.Machine.execStrbRegP1 cond p u byte wb l rn rd shiftImm shift rm s
  | .strbRegP0 cond p u byte wb l rn rd shiftImm shift rm => Sys2Proof.Machine.execStrbRegP0 cond p u byte wb l rn rd shiftImm shift rm s
  | .strbtReg cond p u byte wb l rn rd shiftImm shift rm => Sys2Proof.Machine.execStrbtReg cond p u byte wb l rn rd shiftImm shift rm s
  | .undefMajor3Bit4 cond => Sys2Proof.Machine.execUndefMajor3Bit4 cond s
  | .b cond link offset24 => Sys2Proof.Machine.execB cond link offset24 s
  | .bl cond link offset24 => Sys2Proof.Machine.execBl cond link offset24 s
  | .undefMajor4 cond => Sys2Proof.Machine.execUndefMajor4 cond s
  | .undefMajor6 cond => Sys2Proof.Machine.execUndefMajor6 cond s
  | .undefMajor7 cond => Sys2Proof.Machine.execUndefMajor7 cond s
  | .unresolvedMultiplyExtendedLoadStore cond => Sys2Proof.Machine.execUnresolvedMultiplyExtendedLoadStore cond s

end Sys2Proof.Machine
end

