-- ==== Sys2Proof/Machine/Step.lean ====
section
/-! DEFINITION. One step: the feeder presents its next word, the block decodes the word at its input and drives its output
(spec/30_encoding.md R92). A step is one evaluation of a combinational block; no time is modelled
(spec/70_reset_and_hazards.md R253; notes/assumptions/1.md). -/

namespace Sys2Proof.Machine

/-- One evaluation. -/
def step (s : State) : Host.Outcome State Fault Refusal :=
  exec (decode s.present.instr) s.present

/-- The state in which the feeder has the given word to present next, before the words it already had: the load of
a program word from outside the machine (notes/assumptions/12.md). -/
def State.withFetchWord (s : State) (nbits w : Nat) : State :=
  { s with feed := BitVec.ofNat 32 (w % 2 ^ nbits) :: s.feed }

end Sys2Proof.Machine
end

