-- ==== Sys2Proof/Machine/DecodeArm.lean ====
section
/-! DEFINITION. `decode_arm`, the whole decode function, written as spec/30_encoding.md R92 and the rules it calls write it:
R68 and R69 (the two aliased majors), R100 (data processing), R140 and R145 (miscellaneous and PSR-immediate), R160 (single
data transfer), R190 and R191 (branch). The machine does not call it: it decodes a word to a row of the opcode table
(Sys2Proof/Decode.lean) and runs that row's meaning. That the two agree on every word is a statement for the provers. -/

namespace Sys2Proof.Machine

/-- R100: the ALU operation with the operand-2 its caller chose. -/
def dataProcessing (w : Word) (op2 : Op2) : Operation :=
  let s := sOf w
  let rd := reg (rdOf w)
  let rn := reg (rnOf w)
  match aluTable (opcodeOf w) with
  | .and => .and s rd rn op2
  | .eor => .eor s rd rn op2
  | .sub => .sub s rd rn op2
  | .rsb => .rsb s rd rn op2
  | .add => .add s rd rn op2
  | .adc => .adc s rd rn op2
  | .sbc => .sbc s rd rn op2
  | .rsc => .rsc s rd rn op2
  | .tst => .tst rn op2
  | .teq => .teq rn op2
  | .cmp => .cmp rn op2
  | .cmn => .cmn rn op2
  | .orr => .orr s rd rn op2
  | .mov => .mov s rd op2
  | .bic => .bic s rd rn op2
  | .mvn => .mvn s rd op2

/-- R140: the miscellaneous decoder. -/
def misc (w : Word) : Operation :=
  let lo := loOf w
  let hi := hiOf w
  let r := rOf w
  if !hi && lo == 0 then .mrs (reg (rdOf w)) r
  else if hi && lo == 0 then .msr (reg (rmOf w)) r (maskOf (maskFieldOf w))
  else if hi && lo == 1 then .bx (reg (rmOf w))
  else .undefined

/-- R145: the PSR-immediate decoder. -/
def msrImmediate (w : Word) : Operation :=
  .msrImm (rOf w) (maskOf (maskFieldOf w)) (op2Imm (rotateOf w) (imm8Of w))

/-- R68: the first match of five predicates; the first one refuses. -/
def major0 (w : Word) : Except Family Operation :=
  let fo := foOf w
  let se := seOf w
  let s := sOf w
  let opHi := opHiOf w
  if fo && se then .error .multiplyExtendedLoadStore
  else if fo && !se && !s && opHi then .ok (misc w)
  else if fo && !se then .ok (dataProcessing w (op2ShiftReg (rsOf w) (shiftOf w) (rmOf w)))
  else if !fo && !s && opHi then .ok (misc w)
  else .ok (dataProcessing w (op2ShiftImm (shiftImmOf w) (shiftOf w) (rmOf w)))

/-- R69: the first match of three predicates. The middle one is placed as conflict C1 and decision D6 place it
(notes/assumptions/9.md). -/
def major1 (w : Word) : Operation :=
  let s := sOf w
  let opLo := opLoOf w
  let opHi := opHiOf w
  if !s && opHi && opLo then msrImmediate w
  else if !s && opHi then .undefined
  else dataProcessing w (op2Imm (rotateOf w) (imm8Of w))

/-- R160: the transfer that the bits `p`, `u`, `b`, `wb` and `l` select. -/
def singleTransfer (p u b wb l : Bool) (rn rd : RegField) (offset : Offset2) : Operation :=
  match l, b, unprivileged p wb with
  | true, false, false => .ldr (reg rd) (mode2 p u wb rn offset)
  | false, false, false => .str (reg rd) (mode2 p u wb rn offset)
  | true, true, false => .ldrb (reg rd) (mode2 p u wb rn offset)
  | false, true, false => .strb (reg rd) (mode2 p u wb rn offset)
  | true, false, true => .ldrt (reg rd) (mode2 p u wb rn offset)
  | false, false, true => .strt (reg rd) (mode2 p u wb rn offset)
  | true, true, true => .ldrbt (reg rd) (mode2 p u wb rn offset)
  | false, true, true => .strbt (reg rd) (mode2 p u wb rn offset)

/-- R160 on the fields of a word. -/
def transfer (w : Word) (offset : Offset2) : Operation :=
  singleTransfer (pOf w) (uOf w) (bOf w) (wbOf w) (lOf w) (rnOf w) (rdOf w) offset

/-- R190, R191: the branch decoder. -/
def branch (w : Word) : Operation := .b (linkOf w) (offsetBytes (offset24Of w))

/-- R67, R92: the operation, or the family whose decoding the source does not give. -/
def operationOf (w : Word) : Except Family Operation :=
  match majorOf w with
  | 0#3 => major0 w
  | 1#3 => .ok (major1 w)
  | 2#3 => .ok (transfer w (offsetImm (imm12Of w)))
  | 3#3 => if flag w 4 then .ok .undefined else .ok (transfer w (offsetReg (shiftImmOf w) (shiftOf w) (rmOf w)))
  | 4#3 => .ok .undefined
  | 5#3 => .ok (branch w)
  | 6#3 => .ok .undefined
  | 7#3 => .ok .undefined

/-- R92: the block's output for an input word. -/
def decodeArm (w : Word) : DecodeResult :=
  match operationOf w with
  | .ok op => .ok ⟨condTable (condOf w), op⟩
  | .error family => .unresolved family

end Sys2Proof.Machine
end

