-- ==== Sys2Proof/Safety.lean ====
section
/-! DEFINITION. What a safe run is, in the terms the statements use. The block never faults
(spec/60_exceptions.md R220) and stops in one way only, on a word whose decoding the source does not give (R202): a run is
safe as long as no such word is presented. -/

namespace Sys2Proof.Machine

/-- R90, R202: the words of the unresolved space, major 0 with bits 4 and 7 set. -/
def unresolvedWord (w : Word) : Bool := majorOf w == 0b000#3 && foOf w && seOf w

/-- R92, R250: the output port carries the decoding of the word at the input port. -/
def State.portsAgree (s : State) : Bool := s.result == decodeArm s.instr

/-- One step evaluates the word presented to `Ok(Decoded)` with this operation: the next state is the presented state but for
the output port, which carries the operation under the condition of the word's own bits 31-28 (R22, R65, R92). -/
def State.Answers (s : State) (op : Operation) : Prop :=
  step s = .next { s.present with result := .ok ⟨condTable (condOf s.present.instr), op⟩ }

/-- R102: the comparisons, which carry no destination and no `s`. -/
def Operation.isComparison (op : Operation) : Bool :=
  match op with
  | .tst .. | .teq .. | .cmp .. | .cmn .. => true
  | .ldr .. | .str .. | .ldrb .. | .strb .. | .ldrt .. | .strt .. | .ldrbt .. | .strbt .. | .and .. | .eor .. | .sub ..
  | .rsb .. | .add .. | .adc .. | .sbc .. | .rsc .. | .orr .. | .mov .. | .bic .. | .mvn .. | .mrs .. | .msr .. | .msrImm ..
  | .bx .. | .b .. | .undefined => false

/-- The operand-2 of a data-processing operation, and nothing for any other operation. -/
def Operation.op2? (op : Operation) : Option Op2 :=
  match op with
  | .and _ _ _ o | .eor _ _ _ o | .sub _ _ _ o | .rsb _ _ _ o | .add _ _ _ o | .adc _ _ _ o | .sbc _ _ _ o | .rsc _ _ _ o
  | .orr _ _ _ o | .bic _ _ _ o | .tst _ o | .teq _ o | .cmp _ o | .cmn _ o | .mov _ _ o | .mvn _ _ o => some o
  | .ldr .. | .str .. | .ldrb .. | .strb .. | .ldrt .. | .strt .. | .ldrbt .. | .strbt .. | .mrs .. | .msr .. | .msrImm ..
  | .bx .. | .b .. | .undefined => none

/-- The name of an operation's constructor as spec/opcode_table.json and R32 spell it. -/
def Operation.mnemonic (op : Operation) : String :=
  match op with
  | .and .. => "And"
  | .eor .. => "Eor"
  | .sub .. => "Sub"
  | .rsb .. => "Rsb"
  | .add .. => "Add"
  | .adc .. => "Adc"
  | .sbc .. => "Sbc"
  | .rsc .. => "Rsc"
  | .tst .. => "Tst"
  | .teq .. => "Teq"
  | .cmp .. => "Cmp"
  | .cmn .. => "Cmn"
  | .orr .. => "Orr"
  | .mov .. => "Mov"
  | .bic .. => "Bic"
  | .mvn .. => "Mvn"
  | .mrs .. => "Mrs"
  | .msr .. => "Msr"
  | .msrImm .. => "MsrImm"
  | .bx .. => "Bx"
  | .ldr .. => "Ldr"
  | .str .. => "Str"
  | .ldrb .. => "Ldrb"
  | .strb .. => "Strb"
  | .ldrt .. => "Ldrt"
  | .strt .. => "Strt"
  | .ldrbt .. => "Ldrbt"
  | .strbt .. => "Strbt"
  | .b .. => "B"
  | .undefined => "Undefined"

end Sys2Proof.Machine
end

