-- ==== Sys2Proof/WellFormed.lean ====
section
/-! DEFINITION. When an instruction is well formed: the fields it carries agree with the bits its row of
spec/opcode_table.json fixes. Every field already has exactly its width by its type, so a field out of range cannot be
written (spec/93_implementation_defined.md U8), and only the rows of the single data transfers (spec/30_encoding.md R87,
R88; spec/42_single_data_transfer.md R162) and of the branches (R89; spec/43_branch.md R190, R191) list a field that
they also fix. -/

namespace Sys2Proof

/-- The rows with `p` set (offset or pre-indexed): `b` and `l` are the row's. -/
def wfP1 (rowB rowL p b l : Bool) : Bool := p && (b == rowB) && (l == rowL)

/-- The rows with `p` clear that are not unprivileged (post-indexed): `wb` is clear, `b` and `l` are the row's. -/
def wfP0 (rowB rowL p wb b l : Bool) : Bool := !p && !wb && (b == rowB) && (l == rowL)

/-- The unprivileged rows: `p` is clear and `wb` set (R162), `b` and `l` are the row's. -/
def wfT (rowB rowL p wb b l : Bool) : Bool := !p && wb && (b == rowB) && (l == rowL)

/-- An instruction whose fields agree with the fixed bits of its row. -/
def Instr.wf (i : Instr) : Bool :=
  match i with
  | .andShiftImm .. => true
  | .andShiftReg .. => true
  | .andRotImm .. => true
  | .eorShiftImm .. => true
  | .eorShiftReg .. => true
  | .eorRotImm .. => true
  | .subShiftImm .. => true
  | .subShiftReg .. => true
  | .subRotImm .. => true
  | .rsbShiftImm .. => true
  | .rsbShiftReg .. => true
  | .rsbRotImm .. => true
  | .addShiftImm .. => true
  | .addShiftReg .. => true
  | .addRotImm .. => true
  | .adcShiftImm .. => true
  | .adcShiftReg .. => true
  | .adcRotImm .. => true
  | .sbcShiftImm .. => true
  | .sbcShiftReg .. => true
  | .sbcRotImm .. => true
  | .rscShiftImm .. => true
  | .rscShiftReg .. => true
  | .rscRotImm .. => true
  | .tstShiftImm .. => true
  | .tstShiftReg .. => true
  | .tstRotImm .. => true
  | .teqShiftImm .. => true
  | .teqShiftReg .. => true
  | .teqRotImm .. => true
  | .cmpShiftImm .. => true
  | .cmpShiftReg .. => true
  | .cmpRotImm .. => true
  | .cmnShiftImm .. => true
  | .cmnShiftReg .. => true
  | .cmnRotImm .. => true
  | .orrShiftImm .. => true
  | .orrShiftReg .. => true
  | .orrRotImm .. => true
  | .movShiftImm .. => true
  | .movShiftReg .. => true
  | .movRotImm .. => true
  | .bicShiftImm .. => true
  | .bicShiftReg .. => true
  | .bicRotImm .. => true
  | .mvnShiftImm .. => true
  | .mvnShiftReg .. => true
  | .mvnRotImm .. => true
  | .mrs .. => true
  | .msr .. => true
  | .bx .. => true
  | .undefMiscHi0Lo1 .. => true
  | .undefMiscHi0Lo2 .. => true
  | .undefMiscHi0Lo3 .. => true
  | .undefMiscHi0Lo4 .. => true
  | .undefMiscHi0Lo5 .. => true
  | .undefMiscHi0Lo6 .. => true
  | .undefMiscHi0Lo7 .. => true
  | .undefMiscHi0Lo8 .. => true
  | .undefMiscHi0LoA .. => true
  | .undefMiscHi0LoC .. => true
  | .undefMiscHi0LoE .. => true
  | .undefMiscHi1Lo2 .. => true
  | .undefMiscHi1Lo3 .. => true
  | .undefMiscHi1Lo4 .. => true
  | .undefMiscHi1Lo5 .. => true
  | .undefMiscHi1Lo6 .. => true
  | .undefMiscHi1Lo7 .. => true
  | .undefMiscHi1Lo8 .. => true
  | .undefMiscHi1LoA .. => true
  | .undefMiscHi1LoC .. => true
  | .undefMiscHi1LoE .. => true
  | .msrImm .. => true
  | .undefMajor1Band .. => true
  | .ldrImmP1 _ p _ byte _ l _ _ _ => wfP1 false true p byte l
  | .ldrImmP0 _ p _ byte wb l _ _ _ => wfP0 false true p wb byte l
  | .ldrtImm _ p _ byte wb l _ _ _ => wfT false true p wb byte l
  | .strImmP1 _ p _ byte _ l _ _ _ => wfP1 false false p byte l
  | .strImmP0 _ p _ byte wb l _ _ _ => wfP0 false false p wb byte l
  | .strtImm _ p _ byte wb l _ _ _ => wfT false false p wb byte l
  | .ldrbImmP1 _ p _ byte _ l _ _ _ => wfP1 true true p byte l
  | .ldrbImmP0 _ p _ byte wb l _ _ _ => wfP0 true true p wb byte l
  | .ldrbtImm _ p _ byte wb l _ _ _ => wfT true true p wb byte l
  | .strbImmP1 _ p _ byte _ l _ _ _ => wfP1 true false p byte l
  | .strbImmP0 _ p _ byte wb l _ _ _ => wfP0 true false p wb byte l
  | .strbtImm _ p _ byte wb l _ _ _ => wfT true false p wb byte l
  | .ldrRegP1 _ p _ byte _ l _ _ _ _ _ => wfP1 false true p byte l
  | .ldrRegP0 _ p _ byte wb l _ _ _ _ _ => wfP0 false true p wb byte l
  | .ldrtReg _ p _ byte wb l _ _ _ _ _ => wfT false true p wb byte l
  | .strRegP1 _ p _ byte _ l _ _ _ _ _ => wfP1 false false p byte l
  | .strRegP0 _ p _ byte wb l _ _ _ _ _ => wfP0 false false p wb byte l
  | .strtReg _ p _ byte wb l _ _ _ _ _ => wfT false false p wb byte l
  | .ldrbRegP1 _ p _ byte _ l _ _ _ _ _ => wfP1 true true p byte l
  | .ldrbRegP0 _ p _ byte wb l _ _ _ _ _ => wfP0 true true p wb byte l
  | .ldrbtReg _ p _ byte wb l _ _ _ _ _ => wfT true true p wb byte l
  | .strbRegP1 _ p _ byte _ l _ _ _ _ _ => wfP1 true false p byte l
  | .strbRegP0 _ p _ byte wb l _ _ _ _ _ => wfP0 true false p wb byte l
  | .strbtReg _ p _ byte wb l _ _ _ _ _ => wfT true false p wb byte l
  | .undefMajor3Bit4 .. => true
  | .b _ link _ => !link
  | .bl _ link _ => link
  | .undefMajor4 .. => true
  | .undefMajor6 .. => true
  | .undefMajor7 .. => true
  | .unresolvedMultiplyExtendedLoadStore .. => true

end Sys2Proof
end

