-- ==== Sys2Proof/Certificates/Slice0/Obligations.lean ====
section
/-! DEFINITION. The statements for the provers. `s.Answers op` (Sys2Proof/Safety.lean) says that one step from `s` gives the
presented state with only the output port changed, to `Ok` of the condition of bits 31-28 of the word presented and of `op`;
`s.present.instr` is that word. A statement whose words rest on a decision of the spec's own (spec/92_eei_decisions.md) or on a
choice of this model names it. -/

open Sys2Proof Sys2Proof.Machine

/-- spec/30_encoding.md section 4: the table of conditions. The codes between the end points are the spec's reading of the list's order (decision D20; notes/assumptions/6.md). -/
def Obligations.ConditionCodesAreTheSixteenOfTheList : Prop :=
  condTable 0x0#4 = .eq ∧
  condTable 0x1#4 = .ne ∧
  condTable 0x2#4 = .cs ∧
  condTable 0x3#4 = .cc ∧
  condTable 0x4#4 = .mi ∧
  condTable 0x5#4 = .pl ∧
  condTable 0x6#4 = .vs ∧
  condTable 0x7#4 = .vc ∧
  condTable 0x8#4 = .hi ∧
  condTable 0x9#4 = .ls ∧
  condTable 0xA#4 = .ge ∧
  condTable 0xB#4 = .lt ∧
  condTable 0xC#4 = .gt ∧
  condTable 0xD#4 = .le ∧
  condTable 0xE#4 = .always ∧
  condTable 0xF#4 = .reserved

/-- spec/30_encoding.md section 7: the shift types by code, the spec's decision D4 (notes/assumptions/5.md). -/
def Obligations.ShiftTypesByTheirCodes : Prop :=
  shiftTable 0b00#2 = .lsl ∧ shiftTable 0b01#2 = .lsr ∧ shiftTable 0b10#2 = .asr ∧ shiftTable 0b11#2 = .ror

/-- R75: the four lanes of the mask, each from its own bit, for every word and so for each of the 16 combinations. -/
def Obligations.MaskLanesAreBitsNineteenToSixteen : Prop :=
  ∀ w : Word,
    (maskOf (field w 16 4)).flags = w.getLsbD 19 ∧ (maskOf (field w 16 4)).status = w.getLsbD 18 ∧
    (maskOf (field w 16 4)).extension = w.getLsbD 17 ∧ (maskOf (field w 16 4)).control = w.getLsbD 16

/-- spec/30_encoding.md section 3: the sign-extension primitive. That bits 31-24 of the argument are ignored is decision D13 (notes/assumptions/8.md). -/
def Obligations.SignExtensionOfTheLowTwentyFourBits : Prop :=
  ∀ v : Word,
    sext24Int v = (if v.getLsbD 23 then ((v.toNat % 2 ^ 24 : Nat) : Int) - 2 ^ 24 else ((v.toNat % 2 ^ 24 : Nat) : Int)) ∧
    sext24 v = (v.setWidth 24).signExtend 32

/-- spec/opcode_table.json and spec/40_data_processing.md section 2, one clause for each row. That the fields are those registers and amounts is decision D3 and D4 (notes/assumptions/5.md), the opcode of each row decision D20 (notes/assumptions/6.md). -/
def Obligations.RowsShiftedByImmediateComplete : Prop :=
  ∀ (cond : CondField) (sf : Bool) (rn rd : RegField) (shiftImm : ShiftImmField) (shift : ShiftField) (rm : RegField) (st : State),
    exec (.andShiftImm cond sf rn rd shiftImm shift rm) st =
      .next { st with result := .ok ⟨condTable cond, .and sf ⟨rd.toFin⟩ ⟨rn.toFin⟩ (.shift ⟨rm.toFin⟩ (shiftTable shift) (.imm shiftImm))⟩ } ∧
    exec (.eorShiftImm cond sf rn rd shiftImm shift rm) st =
      .next { st with result := .ok ⟨condTable cond, .eor sf ⟨rd.toFin⟩ ⟨rn.toFin⟩ (.shift ⟨rm.toFin⟩ (shiftTable shift) (.imm shiftImm))⟩ } ∧
    exec (.subShiftImm cond sf rn rd shiftImm shift rm) st =
      .next { st with result := .ok ⟨condTable cond, .sub sf ⟨rd.toFin⟩ ⟨rn.toFin⟩ (.shift ⟨rm.toFin⟩ (shiftTable shift) (.imm shiftImm))⟩ } ∧
    exec (.rsbShiftImm cond sf rn rd shiftImm shift rm) st =
      .next { st with result := .ok ⟨condTable cond, .rsb sf ⟨rd.toFin⟩ ⟨rn.toFin⟩ (.shift ⟨rm.toFin⟩ (shiftTable shift) (.imm shiftImm))⟩ } ∧
    exec (.addShiftImm cond sf rn rd shiftImm shift rm) st =
      .next { st with result := .ok ⟨condTable cond, .add sf ⟨rd.toFin⟩ ⟨rn.toFin⟩ (.shift ⟨rm.toFin⟩ (shiftTable shift) (.imm shiftImm))⟩ } ∧
    exec (.adcShiftImm cond sf rn rd shiftImm shift rm) st =
      .next { st with result := .ok ⟨condTable cond, .adc sf ⟨rd.toFin⟩ ⟨rn.toFin⟩ (.shift ⟨rm.toFin⟩ (shiftTable shift) (.imm shiftImm))⟩ } ∧
    exec (.sbcShiftImm cond sf rn rd shiftImm shift rm) st =
      .next { st with result := .ok ⟨condTable cond, .sbc sf ⟨rd.toFin⟩ ⟨rn.toFin⟩ (.shift ⟨rm.toFin⟩ (shiftTable shift) (.imm shiftImm))⟩ } ∧
    exec (.rscShiftImm cond sf rn rd shiftImm shift rm) st =
      .next { st with result := .ok ⟨condTable cond, .rsc sf ⟨rd.toFin⟩ ⟨rn.toFin⟩ (.shift ⟨rm.toFin⟩ (shiftTable shift) (.imm shiftImm))⟩ } ∧
    exec (.tstShiftImm cond rn shiftImm shift rm) st =
      .next { st with result := .ok ⟨condTable cond, .tst ⟨rn.toFin⟩ (.shift ⟨rm.toFin⟩ (shiftTable shift) (.imm shiftImm))⟩ } ∧
    exec (.teqShiftImm cond rn shiftImm shift rm) st =
      .next { st with result := .ok ⟨condTable cond, .teq ⟨rn.toFin⟩ (.shift ⟨rm.toFin⟩ (shiftTable shift) (.imm shiftImm))⟩ } ∧
    exec (.cmpShiftImm cond rn shiftImm shift rm) st =
      .next { st with result := .ok ⟨condTable cond, .cmp ⟨rn.toFin⟩ (.shift ⟨rm.toFin⟩ (shiftTable shift) (.imm shiftImm))⟩ } ∧
    exec (.cmnShiftImm cond rn shiftImm shift rm) st =
      .next { st with result := .ok ⟨condTable cond, .cmn ⟨rn.toFin⟩ (.shift ⟨rm.toFin⟩ (shiftTable shift) (.imm shiftImm))⟩ } ∧
    exec (.orrShiftImm cond sf rn rd shiftImm shift rm) st =
      .next { st with result := .ok ⟨condTable cond, .orr sf ⟨rd.toFin⟩ ⟨rn.toFin⟩ (.shift ⟨rm.toFin⟩ (shiftTable shift) (.imm shiftImm))⟩ } ∧
    exec (.movShiftImm cond sf rd shiftImm shift rm) st =
      .next { st with result := .ok ⟨condTable cond, .mov sf ⟨rd.toFin⟩ (.shift ⟨rm.toFin⟩ (shiftTable shift) (.imm shiftImm))⟩ } ∧
    exec (.bicShiftImm cond sf rn rd shiftImm shift rm) st =
      .next { st with result := .ok ⟨condTable cond, .bic sf ⟨rd.toFin⟩ ⟨rn.toFin⟩ (.shift ⟨rm.toFin⟩ (shiftTable shift) (.imm shiftImm))⟩ } ∧
    exec (.mvnShiftImm cond sf rd shiftImm shift rm) st =
      .next { st with result := .ok ⟨condTable cond, .mvn sf ⟨rd.toFin⟩ (.shift ⟨rm.toFin⟩ (shiftTable shift) (.imm shiftImm))⟩ }

/-- spec/opcode_table.json and spec/40_data_processing.md section 2, one clause for each row. That the fields are those registers and amounts is decision D3 and D4 (notes/assumptions/5.md), the opcode of each row decision D20 (notes/assumptions/6.md). -/
def Obligations.RowsShiftedByRegisterComplete : Prop :=
  ∀ (cond : CondField) (sf : Bool) (rn rd rs : RegField) (shift : ShiftField) (rm : RegField) (st : State),
    exec (.andShiftReg cond sf rn rd rs shift rm) st =
      .next { st with result := .ok ⟨condTable cond, .and sf ⟨rd.toFin⟩ ⟨rn.toFin⟩ (.shift ⟨rm.toFin⟩ (shiftTable shift) (.register ⟨rs.toFin⟩))⟩ } ∧
    exec (.eorShiftReg cond sf rn rd rs shift rm) st =
      .next { st with result := .ok ⟨condTable cond, .eor sf ⟨rd.toFin⟩ ⟨rn.toFin⟩ (.shift ⟨rm.toFin⟩ (shiftTable shift) (.register ⟨rs.toFin⟩))⟩ } ∧
    exec (.subShiftReg cond sf rn rd rs shift rm) st =
      .next { st with result := .ok ⟨condTable cond, .sub sf ⟨rd.toFin⟩ ⟨rn.toFin⟩ (.shift ⟨rm.toFin⟩ (shiftTable shift) (.register ⟨rs.toFin⟩))⟩ } ∧
    exec (.rsbShiftReg cond sf rn rd rs shift rm) st =
      .next { st with result := .ok ⟨condTable cond, .rsb sf ⟨rd.toFin⟩ ⟨rn.toFin⟩ (.shift ⟨rm.toFin⟩ (shiftTable shift) (.register ⟨rs.toFin⟩))⟩ } ∧
    exec (.addShiftReg cond sf rn rd rs shift rm) st =
      .next { st with result := .ok ⟨condTable cond, .add sf ⟨rd.toFin⟩ ⟨rn.toFin⟩ (.shift ⟨rm.toFin⟩ (shiftTable shift) (.register ⟨rs.toFin⟩))⟩ } ∧
    exec (.adcShiftReg cond sf rn rd rs shift rm) st =
      .next { st with result := .ok ⟨condTable cond, .adc sf ⟨rd.toFin⟩ ⟨rn.toFin⟩ (.shift ⟨rm.toFin⟩ (shiftTable shift) (.register ⟨rs.toFin⟩))⟩ } ∧
    exec (.sbcShiftReg cond sf rn rd rs shift rm) st =
      .next { st with result := .ok ⟨condTable cond, .sbc sf ⟨rd.toFin⟩ ⟨rn.toFin⟩ (.shift ⟨rm.toFin⟩ (shiftTable shift) (.register ⟨rs.toFin⟩))⟩ } ∧
    exec (.rscShiftReg cond sf rn rd rs shift rm) st =
      .next { st with result := .ok ⟨condTable cond, .rsc sf ⟨rd.toFin⟩ ⟨rn.toFin⟩ (.shift ⟨rm.toFin⟩ (shiftTable shift) (.register ⟨rs.toFin⟩))⟩ } ∧
    exec (.tstShiftReg cond rn rs shift rm) st =
      .next { st with result := .ok ⟨condTable cond, .tst ⟨rn.toFin⟩ (.shift ⟨rm.toFin⟩ (shiftTable shift) (.register ⟨rs.toFin⟩))⟩ } ∧
    exec (.teqShiftReg cond rn rs shift rm) st =
      .next { st with result := .ok ⟨condTable cond, .teq ⟨rn.toFin⟩ (.shift ⟨rm.toFin⟩ (shiftTable shift) (.register ⟨rs.toFin⟩))⟩ } ∧
    exec (.cmpShiftReg cond rn rs shift rm) st =
      .next { st with result := .ok ⟨condTable cond, .cmp ⟨rn.toFin⟩ (.shift ⟨rm.toFin⟩ (shiftTable shift) (.register ⟨rs.toFin⟩))⟩ } ∧
    exec (.cmnShiftReg cond rn rs shift rm) st =
      .next { st with result := .ok ⟨condTable cond, .cmn ⟨rn.toFin⟩ (.shift ⟨rm.toFin⟩ (shiftTable shift) (.register ⟨rs.toFin⟩))⟩ } ∧
    exec (.orrShiftReg cond sf rn rd rs shift rm) st =
      .next { st with result := .ok ⟨condTable cond, .orr sf ⟨rd.toFin⟩ ⟨rn.toFin⟩ (.shift ⟨rm.toFin⟩ (shiftTable shift) (.register ⟨rs.toFin⟩))⟩ } ∧
    exec (.movShiftReg cond sf rd rs shift rm) st =
      .next { st with result := .ok ⟨condTable cond, .mov sf ⟨rd.toFin⟩ (.shift ⟨rm.toFin⟩ (shiftTable shift) (.register ⟨rs.toFin⟩))⟩ } ∧
    exec (.bicShiftReg cond sf rn rd rs shift rm) st =
      .next { st with result := .ok ⟨condTable cond, .bic sf ⟨rd.toFin⟩ ⟨rn.toFin⟩ (.shift ⟨rm.toFin⟩ (shiftTable shift) (.register ⟨rs.toFin⟩))⟩ } ∧
    exec (.mvnShiftReg cond sf rd rs shift rm) st =
      .next { st with result := .ok ⟨condTable cond, .mvn sf ⟨rd.toFin⟩ (.shift ⟨rm.toFin⟩ (shiftTable shift) (.register ⟨rs.toFin⟩))⟩ }

/-- spec/opcode_table.json and spec/40_data_processing.md section 2, one clause for each row. That the fields are those registers and amounts is decision D3 and D4 (notes/assumptions/5.md), the opcode of each row decision D20 (notes/assumptions/6.md). -/
def Obligations.RowsWithRotatedImmediateComplete : Prop :=
  ∀ (cond : CondField) (sf : Bool) (rn rd : RegField) (rotate : RotateField) (imm8 : Imm8Field) (st : State),
    exec (.andRotImm cond sf rn rd rotate imm8) st =
      .next { st with result := .ok ⟨condTable cond, .and sf ⟨rd.toFin⟩ ⟨rn.toFin⟩ (.immediate imm8 rotate)⟩ } ∧
    exec (.eorRotImm cond sf rn rd rotate imm8) st =
      .next { st with result := .ok ⟨condTable cond, .eor sf ⟨rd.toFin⟩ ⟨rn.toFin⟩ (.immediate imm8 rotate)⟩ } ∧
    exec (.subRotImm cond sf rn rd rotate imm8) st =
      .next { st with result := .ok ⟨condTable cond, .sub sf ⟨rd.toFin⟩ ⟨rn.toFin⟩ (.immediate imm8 rotate)⟩ } ∧
    exec (.rsbRotImm cond sf rn rd rotate imm8) st =
      .next { st with result := .ok ⟨condTable cond, .rsb sf ⟨rd.toFin⟩ ⟨rn.toFin⟩ (.immediate imm8 rotate)⟩ } ∧
    exec (.addRotImm cond sf rn rd rotate imm8) st =
      .next { st with result := .ok ⟨condTable cond, .add sf ⟨rd.toFin⟩ ⟨rn.toFin⟩ (.immediate imm8 rotate)⟩ } ∧
    exec (.adcRotImm cond sf rn rd rotate imm8) st =
      .next { st with result := .ok ⟨condTable cond, .adc sf ⟨rd.toFin⟩ ⟨rn.toFin⟩ (.immediate imm8 rotate)⟩ } ∧
    exec (.sbcRotImm cond sf rn rd rotate imm8) st =
      .next { st with result := .ok ⟨condTable cond, .sbc sf ⟨rd.toFin⟩ ⟨rn.toFin⟩ (.immediate imm8 rotate)⟩ } ∧
    exec (.rscRotImm cond sf rn rd rotate imm8) st =
      .next { st with result := .ok ⟨condTable cond, .rsc sf ⟨rd.toFin⟩ ⟨rn.toFin⟩ (.immediate imm8 rotate)⟩ } ∧
    exec (.tstRotImm cond rn rotate imm8) st =
      .next { st with result := .ok ⟨condTable cond, .tst ⟨rn.toFin⟩ (.immediate imm8 rotate)⟩ } ∧
    exec (.teqRotImm cond rn rotate imm8) st =
      .next { st with result := .ok ⟨condTable cond, .teq ⟨rn.toFin⟩ (.immediate imm8 rotate)⟩ } ∧
    exec (.cmpRotImm cond rn rotate imm8) st =
      .next { st with result := .ok ⟨condTable cond, .cmp ⟨rn.toFin⟩ (.immediate imm8 rotate)⟩ } ∧
    exec (.cmnRotImm cond rn rotate imm8) st =
      .next { st with result := .ok ⟨condTable cond, .cmn ⟨rn.toFin⟩ (.immediate imm8 rotate)⟩ } ∧
    exec (.orrRotImm cond sf rn rd rotate imm8) st =
      .next { st with result := .ok ⟨condTable cond, .orr sf ⟨rd.toFin⟩ ⟨rn.toFin⟩ (.immediate imm8 rotate)⟩ } ∧
    exec (.movRotImm cond sf rd rotate imm8) st =
      .next { st with result := .ok ⟨condTable cond, .mov sf ⟨rd.toFin⟩ (.immediate imm8 rotate)⟩ } ∧
    exec (.bicRotImm cond sf rn rd rotate imm8) st =
      .next { st with result := .ok ⟨condTable cond, .bic sf ⟨rd.toFin⟩ ⟨rn.toFin⟩ (.immediate imm8 rotate)⟩ } ∧
    exec (.mvnRotImm cond sf rd rotate imm8) st =
      .next { st with result := .ok ⟨condTable cond, .mvn sf ⟨rd.toFin⟩ (.immediate imm8 rotate)⟩ }

/-- spec/41_misc_psr.md: the four instructions of the family; `Mask` lists control, extension, status, flags. Register positions are decision D3, the name and operand order of `MsrImm` decision D7 (notes/assumptions/5.md and 11.md). -/
def Obligations.PsrAndExchangeRowsComplete : Prop :=
  ∀ (cond : CondField) (r : Bool) (rd rm : RegField) (mask : MaskField) (rotate : RotateField) (imm8 : Imm8Field) (st : State),
    exec (.mrs cond r rd) st = .next { st with result := .ok ⟨condTable cond, .mrs ⟨rd.toFin⟩ r⟩ } ∧
    exec (.msr cond r mask rm) st =
      .next { st with result := .ok ⟨condTable cond, .msr ⟨rm.toFin⟩ r
        ⟨mask.getLsbD 0, mask.getLsbD 1, mask.getLsbD 2, mask.getLsbD 3⟩⟩ } ∧
    exec (.bx cond rm) st = .next { st with result := .ok ⟨condTable cond, .bx ⟨rm.toFin⟩⟩ } ∧
    exec (.msrImm cond r mask rotate imm8) st =
      .next { st with result := .ok ⟨condTable cond, .msrImm r
        ⟨mask.getLsbD 0, mask.getLsbD 1, mask.getLsbD 2, mask.getLsbD 3⟩ (.immediate imm8 rotate)⟩ }

/-- spec/42_single_data_transfer.md section 2, one clause for each row. The premise is that the row's own control bits are the ones its match fixes, as they are in every decoded instruction. Field positions are decisions D3, D4 and D9 (notes/assumptions/5.md), the operand order decision D7 (notes/assumptions/11.md). -/
def Obligations.TransferRowsWithImmediateOffsetComplete : Prop :=
  ∀ (cond : CondField) (p u byte wb l : Bool) (rn rd : RegField) (imm12 : Imm12Field) (st : State),
    (Instr.wf (.ldrImmP1 cond p u byte wb l rn rd imm12) = true → exec (.ldrImmP1 cond p u byte wb l rn rd imm12) st =
      .next { st with result := .ok ⟨condTable cond, .ldr ⟨rd.toFin⟩ ⟨⟨rn.toFin⟩, !u, (if wb then .preIndexed else .offset), .immediate imm12⟩⟩ }) ∧
    (Instr.wf (.ldrImmP0 cond p u byte wb l rn rd imm12) = true → exec (.ldrImmP0 cond p u byte wb l rn rd imm12) st =
      .next { st with result := .ok ⟨condTable cond, .ldr ⟨rd.toFin⟩ ⟨⟨rn.toFin⟩, !u, .postIndexed, .immediate imm12⟩⟩ }) ∧
    (Instr.wf (.ldrtImm cond p u byte wb l rn rd imm12) = true → exec (.ldrtImm cond p u byte wb l rn rd imm12) st =
      .next { st with result := .ok ⟨condTable cond, .ldrt ⟨rd.toFin⟩ ⟨⟨rn.toFin⟩, !u, .postIndexed, .immediate imm12⟩⟩ }) ∧
    (Instr.wf (.strImmP1 cond p u byte wb l rn rd imm12) = true → exec (.strImmP1 cond p u byte wb l rn rd imm12) st =
      .next { st with result := .ok ⟨condTable cond, .str ⟨rd.toFin⟩ ⟨⟨rn.toFin⟩, !u, (if wb then .preIndexed else .offset), .immediate imm12⟩⟩ }) ∧
    (Instr.wf (.strImmP0 cond p u byte wb l rn rd imm12) = true → exec (.strImmP0 cond p u byte wb l rn rd imm12) st =
      .next { st with result := .ok ⟨condTable cond, .str ⟨rd.toFin⟩ ⟨⟨rn.toFin⟩, !u, .postIndexed, .immediate imm12⟩⟩ }) ∧
    (Instr.wf (.strtImm cond p u byte wb l rn rd imm12) = true → exec (.strtImm cond p u byte wb l rn rd imm12) st =
      .next { st with result := .ok ⟨condTable cond, .strt ⟨rd.toFin⟩ ⟨⟨rn.toFin⟩, !u, .postIndexed, .immediate imm12⟩⟩ }) ∧
    (Instr.wf (.ldrbImmP1 cond p u byte wb l rn rd imm12) = true → exec (.ldrbImmP1 cond p u byte wb l rn rd imm12) st =
      .next { st with result := .ok ⟨condTable cond, .ldrb ⟨rd.toFin⟩ ⟨⟨rn.toFin⟩, !u, (if wb then .preIndexed else .offset), .immediate imm12⟩⟩ }) ∧
    (Instr.wf (.ldrbImmP0 cond p u byte wb l rn rd imm12) = true → exec (.ldrbImmP0 cond p u byte wb l rn rd imm12) st =
      .next { st with result := .ok ⟨condTable cond, .ldrb ⟨rd.toFin⟩ ⟨⟨rn.toFin⟩, !u, .postIndexed, .immediate imm12⟩⟩ }) ∧
    (Instr.wf (.ldrbtImm cond p u byte wb l rn rd imm12) = true → exec (.ldrbtImm cond p u byte wb l rn rd imm12) st =
      .next { st with result := .ok ⟨condTable cond, .ldrbt ⟨rd.toFin⟩ ⟨⟨rn.toFin⟩, !u, .postIndexed, .immediate imm12⟩⟩ }) ∧
    (Instr.wf (.strbImmP1 cond p u byte wb l rn rd imm12) = true → exec (.strbImmP1 cond p u byte wb l rn rd imm12) st =
      .next { st with result := .ok ⟨condTable cond, .strb ⟨rd.toFin⟩ ⟨⟨rn.toFin⟩, !u, (if wb then .preIndexed else .offset), .immediate imm12⟩⟩ }) ∧
    (Instr.wf (.strbImmP0 cond p u byte wb l rn rd imm12) = true → exec (.strbImmP0 cond p u byte wb l rn rd imm12) st =
      .next { st with result := .ok ⟨condTable cond, .strb ⟨rd.toFin⟩ ⟨⟨rn.toFin⟩, !u, .postIndexed, .immediate imm12⟩⟩ }) ∧
    (Instr.wf (.strbtImm cond p u byte wb l rn rd imm12) = true → exec (.strbtImm cond p u byte wb l rn rd imm12) st =
      .next { st with result := .ok ⟨condTable cond, .strbt ⟨rd.toFin⟩ ⟨⟨rn.toFin⟩, !u, .postIndexed, .immediate imm12⟩⟩ })

/-- spec/42_single_data_transfer.md section 2, one clause for each row. The premise is that the row's own control bits are the ones its match fixes, as they are in every decoded instruction. Field positions are decisions D3, D4 and D9 (notes/assumptions/5.md), the operand order decision D7 (notes/assumptions/11.md). -/
def Obligations.TransferRowsWithRegisterOffsetComplete : Prop :=
  ∀ (cond : CondField) (p u byte wb l : Bool) (rn rd : RegField) (shiftImm : ShiftImmField) (shift : ShiftField)
    (rm : RegField) (st : State),
    (Instr.wf (.ldrRegP1 cond p u byte wb l rn rd shiftImm shift rm) = true → exec (.ldrRegP1 cond p u byte wb l rn rd shiftImm shift rm) st =
      .next { st with result := .ok ⟨condTable cond, .ldr ⟨rd.toFin⟩ ⟨⟨rn.toFin⟩, !u, (if wb then .preIndexed else .offset), .register ⟨rm.toFin⟩ (shiftTable shift) shiftImm⟩⟩ }) ∧
    (Instr.wf (.ldrRegP0 cond p u byte wb l rn rd shiftImm shift rm) = true → exec (.ldrRegP0 cond p u byte wb l rn rd shiftImm shift rm) st =
      .next { st with result := .ok ⟨condTable cond, .ldr ⟨rd.toFin⟩ ⟨⟨rn.toFin⟩, !u, .postIndexed, .register ⟨rm.toFin⟩ (shiftTable shift) shiftImm⟩⟩ }) ∧
    (Instr.wf (.ldrtReg cond p u byte wb l rn rd shiftImm shift rm) = true → exec (.ldrtReg cond p u byte wb l rn rd shiftImm shift rm) st =
      .next { st with result := .ok ⟨condTable cond, .ldrt ⟨rd.toFin⟩ ⟨⟨rn.toFin⟩, !u, .postIndexed, .register ⟨rm.toFin⟩ (shiftTable shift) shiftImm⟩⟩ }) ∧
    (Instr.wf (.strRegP1 cond p u byte wb l rn rd shiftImm shift rm) = true → exec (.strRegP1 cond p u byte wb l rn rd shiftImm shift rm) st =
      .next { st with result := .ok ⟨condTable cond, .str ⟨rd.toFin⟩ ⟨⟨rn.toFin⟩, !u, (if wb then .preIndexed else .offset), .register ⟨rm.toFin⟩ (shiftTable shift) shiftImm⟩⟩ }) ∧
    (Instr.wf (.strRegP0 cond p u byte wb l rn rd shiftImm shift rm) = true → exec (.strRegP0 cond p u byte wb l rn rd shiftImm shift rm) st =
      .next { st with result := .ok ⟨condTable cond, .str ⟨rd.toFin⟩ ⟨⟨rn.toFin⟩, !u, .postIndexed, .register ⟨rm.toFin⟩ (shiftTable shift) shiftImm⟩⟩ }) ∧
    (Instr.wf (.strtReg cond p u byte wb l rn rd shiftImm shift rm) = true → exec (.strtReg cond p u byte wb l rn rd shiftImm shift rm) st =
      .next { st with result := .ok ⟨condTable cond, .strt ⟨rd.toFin⟩ ⟨⟨rn.toFin⟩, !u, .postIndexed, .register ⟨rm.toFin⟩ (shiftTable shift) shiftImm⟩⟩ }) ∧
    (Instr.wf (.ldrbRegP1 cond p u byte wb l rn rd shiftImm shift rm) = true → exec (.ldrbRegP1 cond p u byte wb l rn rd shiftImm shift rm) st =
      .next { st with result := .ok ⟨condTable cond, .ldrb ⟨rd.toFin⟩ ⟨⟨rn.toFin⟩, !u, (if wb then .preIndexed else .offset), .register ⟨rm.toFin⟩ (shiftTable shift) shiftImm⟩⟩ }) ∧
    (Instr.wf (.ldrbRegP0 cond p u byte wb l rn rd shiftImm shift rm) = true → exec (.ldrbRegP0 cond p u byte wb l rn rd shiftImm shift rm) st =
      .next { st with result := .ok ⟨condTable cond, .ldrb ⟨rd.toFin⟩ ⟨⟨rn.toFin⟩, !u, .postIndexed, .register ⟨rm.toFin⟩ (shiftTable shift) shiftImm⟩⟩ }) ∧
    (Instr.wf (.ldrbtReg cond p u byte wb l rn rd shiftImm shift rm) = true → exec (.ldrbtReg cond p u byte wb l rn rd shiftImm shift rm) st =
      .next { st with result := .ok ⟨condTable cond, .ldrbt ⟨rd.toFin⟩ ⟨⟨rn.toFin⟩, !u, .postIndexed, .register ⟨rm.toFin⟩ (shiftTable shift) shiftImm⟩⟩ }) ∧
    (Instr.wf (.strbRegP1 cond p u byte wb l rn rd shiftImm shift rm) = true → exec (.strbRegP1 cond p u byte wb l rn rd shiftImm shift rm) st =
      .next { st with result := .ok ⟨condTable cond, .strb ⟨rd.toFin⟩ ⟨⟨rn.toFin⟩, !u, (if wb then .preIndexed else .offset), .register ⟨rm.toFin⟩ (shiftTable shift) shiftImm⟩⟩ }) ∧
    (Instr.wf (.strbRegP0 cond p u byte wb l rn rd shiftImm shift rm) = true → exec (.strbRegP0 cond p u byte wb l rn rd shiftImm shift rm) st =
      .next { st with result := .ok ⟨condTable cond, .strb ⟨rd.toFin⟩ ⟨⟨rn.toFin⟩, !u, .postIndexed, .register ⟨rm.toFin⟩ (shiftTable shift) shiftImm⟩⟩ }) ∧
    (Instr.wf (.strbtReg cond p u byte wb l rn rd shiftImm shift rm) = true → exec (.strbtReg cond p u byte wb l rn rd shiftImm shift rm) st =
      .next { st with result := .ok ⟨condTable cond, .strbt ⟨rd.toFin⟩ ⟨⟨rn.toFin⟩, !u, .postIndexed, .register ⟨rm.toFin⟩ (shiftTable shift) shiftImm⟩⟩ })

/-- spec/43_branch.md: B with `link` false and true, as the two rows of the opcode table. -/
def Obligations.BranchRowsComplete : Prop :=
  ∀ (cond : CondField) (link : Bool) (offset24 : Offset24Field) (st : State),
    (Instr.wf (.b cond link offset24) = true → exec (.b cond link offset24) st =
      .next { st with result := .ok ⟨condTable cond, .b false
        ⟨offset24.extractLsb' 0 8, offset24.extractLsb' 8 8, offset24.extractLsb' 16 8⟩⟩ }) ∧
    (Instr.wf (.bl cond link offset24) = true → exec (.bl cond link offset24) st =
      .next { st with result := .ok ⟨condTable cond, .b true
        ⟨offset24.extractLsb' 0 8, offset24.extractLsb' 8 8, offset24.extractLsb' 16 8⟩⟩ })

/-- spec/44_undefined_unresolved.md section 1: `Undefined` is an ordinary output value with its condition decoded, in each row of the table that has it. -/
def Obligations.UndefinedRowsComplete : Prop :=
  ∀ (cond : CondField) (st : State), ∀ i ∈ [
      Instr.undefMiscHi0Lo1 cond,
      Instr.undefMiscHi0Lo2 cond,
      Instr.undefMiscHi0Lo3 cond,
      Instr.undefMiscHi0Lo4 cond,
      Instr.undefMiscHi0Lo5 cond,
      Instr.undefMiscHi0Lo6 cond,
      Instr.undefMiscHi0Lo7 cond,
      Instr.undefMiscHi0Lo8 cond,
      Instr.undefMiscHi0LoA cond,
      Instr.undefMiscHi0LoC cond,
      Instr.undefMiscHi0LoE cond,
      Instr.undefMiscHi1Lo2 cond,
      Instr.undefMiscHi1Lo3 cond,
      Instr.undefMiscHi1Lo4 cond,
      Instr.undefMiscHi1Lo5 cond,
      Instr.undefMiscHi1Lo6 cond,
      Instr.undefMiscHi1Lo7 cond,
      Instr.undefMiscHi1Lo8 cond,
      Instr.undefMiscHi1LoA cond,
      Instr.undefMiscHi1LoC cond,
      Instr.undefMiscHi1LoE cond,
      Instr.undefMajor1Band cond,
      Instr.undefMajor3Bit4 cond,
      Instr.undefMajor4 cond,
      Instr.undefMajor6 cond,
      Instr.undefMajor7 cond],
    exec i st = .next { st with result := .ok ⟨condTable cond, .undefined⟩ }

/-- R202: the row without decode logic produces the refusal and no value. That it is a refusal is the spec's decision D5 (notes/assumptions/4.md). -/
def Obligations.UnresolvedRowIsRefusedByName : Prop :=
  ∀ (cond : CondField) (st : State),
    exec (.unresolvedMultiplyExtendedLoadStore cond) st = .refused (.unresolved .multiplyExtendedLoadStore)

/-- spec/40_data_processing.md section 2, as words: opcode, form and raw operands, for all register numbers (15 among them) and all raw amounts. Positions and codes are decisions D3, D4 and D20 (notes/assumptions/5.md and 6.md). -/
def Obligations.ThreeOperandAluWordsDecode : Prop :=
  ∀ s : State, ∀ x ∈ ([(0b0000#4, Operation.and), (0b0001#4, Operation.eor), (0b0010#4, Operation.sub), (0b0011#4, Operation.rsb), (0b0100#4,
      Operation.add), (0b0101#4, Operation.adc), (0b0110#4, Operation.sbc), (0b0111#4, Operation.rsc), (0b1100#4, Operation.orr),
      (0b1110#4, Operation.bic)] :
      List (OpcodeField × (Bool → Reg → Reg → Op2 → Operation))),
    field s.present.instr 21 4 = x.1 →
    (field s.present.instr 25 3 = 0b000#3 → flag s.present.instr 4 = false →
      s.Answers (x.2 (flag s.present.instr 20) ⟨(field s.present.instr 12 4).toFin⟩ ⟨(field s.present.instr 16 4).toFin⟩ (.shift ⟨(field s.present.instr 0 4).toFin⟩ (shiftTable (field s.present.instr 5 2))
        (.imm (field s.present.instr 7 5))))) ∧
    (field s.present.instr 25 3 = 0b000#3 → flag s.present.instr 7 = false → flag s.present.instr 4 = true →
      s.Answers (x.2 (flag s.present.instr 20) ⟨(field s.present.instr 12 4).toFin⟩ ⟨(field s.present.instr 16 4).toFin⟩ (.shift ⟨(field s.present.instr 0 4).toFin⟩ (shiftTable (field s.present.instr 5 2))
        (.register ⟨(field s.present.instr 8 4).toFin⟩)))) ∧
    (field s.present.instr 25 3 = 0b001#3 →
      s.Answers (x.2 (flag s.present.instr 20) ⟨(field s.present.instr 12 4).toFin⟩ ⟨(field s.present.instr 16 4).toFin⟩ (.immediate (field s.present.instr 0 8) (field s.present.instr 8 4))))

/-- spec/40_data_processing.md section 2, as words: opcode, form and raw operands, for all register numbers (15 among them) and all raw amounts. Positions and codes are decisions D3, D4 and D20 (notes/assumptions/5.md and 6.md). -/
def Obligations.ComparisonWordsDecode : Prop :=
  ∀ s : State, ∀ x ∈ ([(0b1000#4, Operation.tst), (0b1001#4, Operation.teq), (0b1010#4, Operation.cmp), (0b1011#4, Operation.cmn)] :
      List (OpcodeField × (Reg → Op2 → Operation))),
    field s.present.instr 21 4 = x.1 → flag s.present.instr 20 = true →
    (field s.present.instr 25 3 = 0b000#3 → flag s.present.instr 4 = false →
      s.Answers (x.2 ⟨(field s.present.instr 16 4).toFin⟩ (.shift ⟨(field s.present.instr 0 4).toFin⟩ (shiftTable (field s.present.instr 5 2))
        (.imm (field s.present.instr 7 5))))) ∧
    (field s.present.instr 25 3 = 0b000#3 → flag s.present.instr 7 = false → flag s.present.instr 4 = true →
      s.Answers (x.2 ⟨(field s.present.instr 16 4).toFin⟩ (.shift ⟨(field s.present.instr 0 4).toFin⟩ (shiftTable (field s.present.instr 5 2))
        (.register ⟨(field s.present.instr 8 4).toFin⟩)))) ∧
    (field s.present.instr 25 3 = 0b001#3 →
      s.Answers (x.2 ⟨(field s.present.instr 16 4).toFin⟩ (.immediate (field s.present.instr 0 8) (field s.present.instr 8 4))))

/-- spec/40_data_processing.md section 2, as words: opcode, form and raw operands, for all register numbers (15 among them) and all raw amounts. Positions and codes are decisions D3, D4 and D20 (notes/assumptions/5.md and 6.md). -/
def Obligations.MoveWordsDecode : Prop :=
  ∀ s : State, ∀ x ∈ ([(0b1101#4, Operation.mov), (0b1111#4, Operation.mvn)] :
      List (OpcodeField × (Bool → Reg → Op2 → Operation))),
    field s.present.instr 21 4 = x.1 →
    (field s.present.instr 25 3 = 0b000#3 → flag s.present.instr 4 = false →
      s.Answers (x.2 (flag s.present.instr 20) ⟨(field s.present.instr 12 4).toFin⟩ (.shift ⟨(field s.present.instr 0 4).toFin⟩ (shiftTable (field s.present.instr 5 2))
        (.imm (field s.present.instr 7 5))))) ∧
    (field s.present.instr 25 3 = 0b000#3 → flag s.present.instr 7 = false → flag s.present.instr 4 = true →
      s.Answers (x.2 (flag s.present.instr 20) ⟨(field s.present.instr 12 4).toFin⟩ (.shift ⟨(field s.present.instr 0 4).toFin⟩ (shiftTable (field s.present.instr 5 2))
        (.register ⟨(field s.present.instr 8 4).toFin⟩)))) ∧
    (field s.present.instr 25 3 = 0b001#3 →
      s.Answers (x.2 (flag s.present.instr 20) ⟨(field s.present.instr 12 4).toFin⟩ (.immediate (field s.present.instr 0 8) (field s.present.instr 8 4))))

/-- spec/40_data_processing.md section 1: with `s` clear the comparison opcodes belong to the miscellaneous decoder, to MsrImm or to the undefined band. Two of the spec's own choices stand behind it: that major 1 gives no comparison with `s` clear rests on decision D6 (notes/assumptions/9.md), and that the comparisons have bits 24-23 equal to 10 on decision D20 (notes/assumptions/6.md). -/
def Obligations.ComparisonsOnlyWithFlagsBit : Prop :=
  ∀ (s : State) (op : Operation), s.Answers op → op.isComparison = true →
    flag s.present.instr 20 = true ∧ field s.present.instr 23 2 = 0b10#2 ∧
    (field s.present.instr 25 3 = 0b000#3 ∨ field s.present.instr 25 3 = 0b001#3)

/-- spec/41_misc_psr.md section 1, as words. Register positions are decision D3, the unchecked bits decision D8 (notes/assumptions/5.md and 10.md). -/
def Obligations.PsrAndExchangeWordsDecode : Prop :=
  ∀ s : State, field s.present.instr 25 3 = 0b000#3 → field s.present.instr 23 2 = 0b10#2 → flag s.present.instr 20 = false →
    (flag s.present.instr 21 = false → field s.present.instr 4 4 = 0b0000#4 →
      s.Answers (.mrs ⟨(field s.present.instr 12 4).toFin⟩ (flag s.present.instr 22))) ∧
    (flag s.present.instr 21 = true → field s.present.instr 4 4 = 0b0000#4 →
      s.Answers (.msr ⟨(field s.present.instr 0 4).toFin⟩ (flag s.present.instr 22)
        ⟨flag s.present.instr 16, flag s.present.instr 17, flag s.present.instr 18, flag s.present.instr 19⟩)) ∧
    (flag s.present.instr 21 = true → field s.present.instr 4 4 = 0b0001#4 →
      s.Answers (.bx ⟨(field s.present.instr 0 4).toFin⟩))

/-- spec/41_misc_psr.md section 2. The constructor, its order and the reading of bit 22 are decision D7, its place in major 1 decision D6 (notes/assumptions/11.md and 9.md). -/
def Obligations.MsrImmediateWordsDecode : Prop :=
  ∀ s : State, field s.present.instr 25 3 = 0b001#3 → field s.present.instr 23 2 = 0b10#2 → flag s.present.instr 20 = false →
    flag s.present.instr 21 = true →
    s.Answers (.msrImm (flag s.present.instr 22)
      ⟨flag s.present.instr 16, flag s.present.instr 17, flag s.present.instr 18, flag s.present.instr 19⟩
      (.immediate (field s.present.instr 0 8) (field s.present.instr 8 4)))

/-- R203: majors 4, 6 and 7 fall through to `Undefined` with the condition decoded. -/
def Obligations.MajorsFourSixSevenAreUndefined : Prop :=
  ∀ s : State,
    field s.present.instr 25 3 = 4#3 ∨ field s.present.instr 25 3 = 6#3 ∨ field s.present.instr 25 3 = 7#3 →
    s.Answers .undefined

/-- spec/30_encoding.md section 9: the complete set of words whose operation is `Undefined`. The band of major 1 stands where decision D6 puts it (notes/assumptions/9.md). -/
def Obligations.UndefinedExactlyOnItsSpaces : Prop :=
  ∀ s : State, s.Answers .undefined ↔
    (field s.present.instr 25 3 = 3#3 ∧ flag s.present.instr 4 = true) ∨
    field s.present.instr 25 3 = 4#3 ∨ field s.present.instr 25 3 = 6#3 ∨ field s.present.instr 25 3 = 7#3 ∨
    (field s.present.instr 25 3 = 1#3 ∧ flag s.present.instr 20 = false ∧ field s.present.instr 23 2 = 0b10#2 ∧
      flag s.present.instr 21 = false) ∨
    (field s.present.instr 25 3 = 0#3 ∧ flag s.present.instr 20 = false ∧ field s.present.instr 23 2 = 0b10#2 ∧
      (flag s.present.instr 4 && flag s.present.instr 7) = false ∧ field s.present.instr 4 4 ≠ 0b0000#4 ∧
      ¬(flag s.present.instr 21 = true ∧ field s.present.instr 4 4 = 0b0001#4))

/-- R202: the refusal, whatever the other bits of the word, and nothing else is ever refused. The refusal is decision D5 (notes/assumptions/4.md). -/
def Obligations.UnresolvedExactlyOnItsSpace : Prop :=
  ∀ s : State,
    (step s = .refused (.unresolved .multiplyExtendedLoadStore) ↔
      field s.present.instr 25 3 = 0b000#3 ∧ flag s.present.instr 7 = true ∧ flag s.present.instr 4 = true) ∧
    ∀ r, step s = .refused r → r = .unresolved .multiplyExtendedLoadStore

/-- R161, R162 and R76: the Mode2 control bits of every transfer word, in both formats. No register position plays a part. -/
def Obligations.IndexingAndUnprivilegedOverride : Prop :=
  ∀ s : State, (field s.present.instr 25 3 = 2#3 ∨ field s.present.instr 25 3 = 3#3 ∧ flag s.present.instr 4 = false) →
    ∃ (rd : Reg) (m : Mode2),
      m.indexing = (if !flag s.present.instr 24 then .postIndexed else if flag s.present.instr 21 then .preIndexed else .offset) ∧
      m.subtract = !flag s.present.instr 23 ∧
      s.Answers (if !flag s.present.instr 24 && flag s.present.instr 21 then
          (if flag s.present.instr 20 then (if flag s.present.instr 22 then .ldrbt rd m else .ldrt rd m)
            else (if flag s.present.instr 22 then .strbt rd m else .strt rd m))
        else
          (if flag s.present.instr 20 then (if flag s.present.instr 22 then .ldrb rd m else .ldr rd m)
            else (if flag s.present.instr 22 then .strb rd m else .str rd m)))

/-- spec/42_single_data_transfer.md section 1: transfer register, base and offset of every transfer word. Positions are decisions D3, D4 and D9 (notes/assumptions/5.md). -/
def Obligations.TransferOperandsAreTheWordsFields : Prop :=
  ∀ s : State,
    (field s.present.instr 25 3 = 2#3 →
      ∃ (rd : Reg) (m : Mode2), rd = ⟨(field s.present.instr 12 4).toFin⟩ ∧ m.base = ⟨(field s.present.instr 16 4).toFin⟩ ∧
        m.offset = .immediate (field s.present.instr 0 12) ∧
        ∃ op ∈ ([.ldr, .str, .ldrb, .strb, .ldrt, .strt, .ldrbt, .strbt] : List (Reg → Mode2 → Operation)), s.Answers (op rd m)) ∧
    (field s.present.instr 25 3 = 3#3 → flag s.present.instr 4 = false →
      ∃ (rd : Reg) (m : Mode2), rd = ⟨(field s.present.instr 12 4).toFin⟩ ∧ m.base = ⟨(field s.present.instr 16 4).toFin⟩ ∧
        m.offset = .register ⟨(field s.present.instr 0 4).toFin⟩ (shiftTable (field s.present.instr 5 2)) (field s.present.instr 7 5) ∧
        ∃ op ∈ ([.ldr, .str, .ldrb, .strb, .ldrt, .strt, .ldrbt, .strbt] : List (Reg → Mode2 → Operation)), s.Answers (op rd m))

/-- R190, R191 and R79: branch and branch with link, for every offset and every condition; the offset is not extended and not scaled. -/
def Obligations.BranchWordsGiveRawBytes : Prop :=
  ∀ s : State, field s.present.instr 25 3 = 0b101#3 →
    (flag s.present.instr 24 = false →
      s.Answers (.b false ⟨field s.present.instr 0 8, field s.present.instr 8 8, field s.present.instr 16 8⟩)) ∧
    (flag s.present.instr 24 = true →
      s.Answers (.b true ⟨field s.present.instr 0 8, field s.present.instr 8 8, field s.present.instr 16 8⟩))

/-- spec/20_memory.md section 2: the number that the bytes of an output branch denote. That `link` is bit 24 is spec/43_branch.md R190 and R191. -/
def Obligations.BranchBytesDenoteTheLowTwentyFourBits : Prop :=
  ∀ (s : State) (link : Bool) (o : OffsetBytes), s.Answers (.b link o) →
    o.value = s.present.instr.toNat % 2 ^ 24 ∧ link = s.present.instr.getLsbD 24

/-- spec/30_encoding.md section 7: the immediate operand is neither rotated nor scaled. Which words of major 1 are data processing is decision D6 (notes/assumptions/9.md). -/
def Obligations.RotatedImmediateStaysRaw : Prop :=
  ∀ s : State, field s.present.instr 25 3 = 0b001#3 →
    (flag s.present.instr 20 = true ∨ field s.present.instr 23 2 ≠ 0b10#2) →
    ∃ op, s.Answers op ∧ op.op2? = some (.immediate (field s.present.instr 0 8) (field s.present.instr 8 4))

/-- R66: the condition is decoded apart; two words that differ only in bits 31-28 give one operation, each under its own condition, or one refusal. -/
def Obligations.ReservedConditionDecodesLikeAnyOther : Prop :=
  condTable 0xF#4 = .reserved ∧
  ∀ s t : State, field s.present.instr 0 28 = field t.present.instr 0 28 →
    (∃ op, s.Answers op ∧ t.Answers op) ∨ (∃ r, step s = .refused r ∧ step t = .refused r)

/-- R93: totality outside the unresolved space, one result for each word, and no dependence on anything but the word: not on what stood at the ports before, nor on what is still to be presented. -/
def Obligations.OutputIsAFunctionOfTheWord : Prop :=
  (∀ s : State, unresolvedWord s.present.instr = false → ∃ op, s.Answers op) ∧
  (∀ s : State, (∃ op, s.Answers op) ∨ (∃ r, step s = .refused r)) ∧
  (∀ s t : State, s.present.instr = t.present.instr →
    (∀ op, s.Answers op → t.Answers op) ∧ (∀ r, step s = .refused r → step t = .refused r))

/-- spec/30_encoding.md section 8: for every instruction of all 105 rows and every value of its fields, the decoder reads back what the encoder wrote. -/
def Obligations.DecodeOfEncode : Prop :=
  ∀ i : Instr, i.wf = true → decode (encode i) = i

/-- spec/30_encoding.md sections 8 and 9: the decoder drops no bit of a word but those its row ignores, which the encoder writes as zero (the model's choice, notes/assumptions/10.md). -/
def Obligations.EncodeOfDecodeKeepsEveryReadBit : Prop :=
  ∀ w : Word, ∃ r, opcodeTable[(decode w).rowIndex]? = some r ∧ encode (decode w) = w &&& r.care

/-- spec/30_encoding.md section 9: a bit that a decode path does not name never changes the output of that path (decision D8; notes/assumptions/10.md). -/
def Obligations.IgnoredBitsNeverMatter : Prop :=
  ∀ (v w : Word) (r : TableRow), opcodeTable[(decode w).rowIndex]? = some r → v &&& r.care = w &&& r.care → decode v = decode w

/-- spec/30_encoding.md sections 5 and 8: the fields the decoder takes out agree with the bits the row fixes. -/
def Obligations.DecodedInstructionsAreWellFormed : Prop :=
  ∀ w : Word, (decode w).wf = true

/-- spec/opcode_table.json against the decode tree of spec/30_encoding.md section 5: first match in order on one side, mask and match on the other. So the rows do not overlap and every word has one. -/
def Obligations.DecoderAgreesWithTheOpcodeTable : Prop :=
  (∀ (w : Word) (k : Nat) (r : TableRow), opcodeTable[k]? = some r → (r.matches w = true ↔ (decode w).rowIndex = k)) ∧
  ∀ w : Word, (decode w).rowIndex < opcodeTable.length

/-- spec/opcode_table.json: the mnemonic of each row is the name of the constructor the block outputs for its words, or the refusal. -/
def Obligations.TableMnemonicNamesTheOutput : Prop :=
  ∀ (s : State), ∀ r ∈ opcodeTable, r.matches s.present.instr = true →
    (∀ op, s.Answers op → op.mnemonic = r.mnemonic) ∧
    ((∃ f, step s = .refused f) ↔ r.mnemonic = "Unresolved(MultiplyExtendedLoadStore)")

/-- spec/30_encoding.md section 10: the whole decode function as the spec writes it, against the machine that decodes to a row of the opcode table and runs that row's meaning. -/
def Obligations.StepIsDecodeArm : Prop :=
  ∀ s : State, step s =
    match decodeArm s.present.instr with
    | .ok d => .next { s.present with result := .ok d }
    | .unresolved family => .refused (.unresolved family)

/-- spec/10_state.md sections 1 and 2: the block is combinational. After a step from any state, reached or not, the ports agree; and evaluating an unchanged input again changes nothing. That an empty feed leaves the input as it is, is the model's choice (notes/assumptions/2.md). -/
def Obligations.EveryStepLeavesThePortsInAgreement : Prop :=
  (∀ s t : State, step s = .next t → t.portsAgree = true) ∧
  (∀ s t : State, s.portsAgree = true → s.feed = [] → step s = .next t → t = s)

/-- spec/70_reset_and_hazards.md section 1: the output after power-up is decode_arm of the word at the input. That this word is zero and that no word waits is the model's choice (notes/assumptions/3.md). -/
def Obligations.PortsAgreeBeforeTheFirstStep : Prop :=
  State.reset.portsAgree = true ∧ State.reset.feed = []

/-- spec/95_test_vectors.md section 3: a program is the sequence of words presented. One step for each word, and no trace of the earlier words or of the earlier state is left. The feed is the model's own field (notes/assumptions/2.md). -/
def Obligations.RunPresentsEveryWordInOrder : Prop :=
  ∀ (ws rest : List Word) (h : ws ≠ []) (s : State), (∀ w ∈ ws, unresolvedWord w = false) →
    Sys2Proof.core.run ws.length ({ s with feed := ws ++ rest } : State) =
      .next ({ instr := ws.getLast h, result := decodeArm (ws.getLast h), feed := rest } : State)

/-- A run that presents a word of the unresolved space after any number of decoded words. R202 and decision D5 refuse that one word. That the run ends there, with the later words not presented, is the model's choice (notes/assumptions/4.md), and the feed is the model's own field (notes/assumptions/2.md): spec/95_test_vectors.md section 3.4 goes on after such a word, and this model does so from a state of its own for each word. -/
def Obligations.RunStopsAtTheFirstUnresolvedWord : Prop :=
  ∀ (ws rest : List Word) (w : Word) (s : State) (k : Nat), (∀ v ∈ ws, unresolvedWord v = false) → unresolvedWord w = true →
    Sys2Proof.core.run (ws.length + 1 + k) ({ s with feed := ws ++ w :: rest } : State) =
      .refused (.unresolved .multiplyExtendedLoadStore)

/-- spec/30_encoding.md section 10. The feed and the held input are the model's own (notes/assumptions/2.md); a step has no program counter to move (R36). -/
def Obligations.StepRunsTheDecodedInstruction : Prop :=
  (∀ (s : State) (w : Word) (rest : List Word) (i : Instr), s.feed = w :: rest → decode w = i → i.wf = true →
    step s = exec i { s with instr := w, feed := rest }) ∧
  (∀ (s : State) (i : Instr), s.feed = [] → decode s.instr = i → i.wf = true → step s = exec i s) ∧
  (∀ (s : State) (n w : Nat) (i : Instr), decodeTableWord n w = some i →
    step (s.withFetchWord n w) = exec i { s with instr := BitVec.ofNat 32 w })

/-- spec/10_state.md sections 1 and 2: the frame of every instruction. The block has no register, flag, pc or memory that could change; the output port is all it drives. -/
def Obligations.ExecLeavesInputAndFeedAlone : Prop :=
  ∀ (i : Instr) (s t : State), exec i s = .next t →
    t.instr = s.instr ∧ t.feed = s.feed ∧ ∃ op, t.result = .ok ⟨condTable i.cond, op⟩

/-- Source Scenarios A to D and one word of each family, from spec/95_test_vectors.md sections 1 and 2, but for 0xE0821433 (an example of R120, spec/40_data_processing.md section 3) and 0xE5910004 (the example of R165, spec/42_single_data_transfer.md section 2). -/
def Obligations.SampleWordsDecodeAsTheSpecWritesThem : Prop :=
  decode 0xE3A00001#32 = .movRotImm 0xE#4 false 0x0#4 0x0#4 0x01#8 ∧
  decode 0xEAFFFFFE#32 = .b 0xE#4 false 0xFFFFFE#24 ∧
  decode 0xE10F0000#32 = .mrs 0xE#4 false 0x0#4 ∧
  decode 0x00000000#32 = .andShiftImm 0x0#4 false 0x0#4 0x0#4 0b00000#5 0b00#2 0x0#4 ∧
  decode 0xE129F001#32 = .msr 0xE#4 false 0b1001#4 0x1#4 ∧
  decode 0xE12FFF1E#32 = .bx 0xE#4 0xE#4 ∧
  decode 0xE0821433#32 = .addShiftReg 0xE#4 false 0x2#4 0x1#4 0x4#4 0b01#2 0x3#4 ∧
  decode 0xE5910004#32 = .ldrImmP1 0xE#4 true true false false true 0x1#4 0x0#4 0x004#12 ∧
  decode 0xE6B10102#32 = .ldrtReg 0xE#4 false true false true true 0x1#4 0x0#4 0b00010#5 0b00#2 0x2#4 ∧
  decode 0xE328F20F#32 = .msrImm 0xE#4 false 0b1000#4 0x2#4 0x0F#8 ∧
  decode 0xE7910112#32 = .undefMajor3Bit4 0xE#4 ∧
  decode 0xE0000090#32 = .unresolvedMultiplyExtendedLoadStore 0xE#4
end

