-- ==== Sys2Proof/Laws/Fields.lean ====
section
/-! SUPPORT. The laws of the bit-field primitives: how a field of a field, a bit of a field and a field of a concatenation are
read (spec/30_encoding.md R63). -/

namespace Sys2Proof

/-- A flag is the bit at its position (R12). -/
theorem flag_eq_getLsbD (w : Word) (k : Nat) (h : k + 1 ≤ 32) : flag w k h = w.getLsbD k := by
  have hk : (field w k 1 h).getLsbD 0 = w.getLsbD k := by simp [field]
  rw [← hk]
  unfold flag
  generalize field w k 1 h = b
  revert b
  decide

/-- A part of a field is the field at the shifted position. -/
theorem extractLsb'_field (w : Word) (lo n start len : Nat) (h : lo + n ≤ 32) (hn : start + len ≤ n) :
    (field w lo n h).extractLsb' start len = field w (lo + start) len (by omega) := by
  apply BitVec.eq_of_getLsbD_eq
  intro i hi
  have h2 : start + i < n := by omega
  simp [field, h2, hi, Nat.add_assoc]

/-- A bit of a field is the flag at the shifted position. -/
theorem getLsbD_field (w : Word) (lo n k : Nat) (h : lo + n ≤ 32) (hk : k < n) :
    (field w lo n h).getLsbD k = flag w (lo + k) (by omega) := by
  rw [flag_eq_getLsbD]
  simp [field, hk]

/-- Two words agree when every bit agrees. -/
theorem word_ext {v w : Word} (h : ∀ k (hk : k + 1 ≤ 32), flag v k hk = flag w k hk) : v = w := by
  apply BitVec.eq_of_getLsbD_eq
  intro i hi
  have := h i (by omega)
  rwa [flag_eq_getLsbD, flag_eq_getLsbD] at this

/-- The ALU opcode's upper half decides `op_hi` (R61, R70). -/
theorem opcode_upper (w : Word) : (field w 21 4).extractLsb' 2 2 = field w 23 2 := extractLsb'_field w 21 4 2 2 (by decide) (by decide)

/-- The ALU opcode's lower half. -/
theorem opcode_lower (w : Word) : (field w 21 4).extractLsb' 0 2 = field w 21 2 := extractLsb'_field w 21 4 0 2 (by decide) (by decide)

/-- The upper half of `lo`, bits 7-6. -/
theorem lo_upper (w : Word) : (field w 4 4).extractLsb' 2 2 = field w 6 2 := extractLsb'_field w 4 4 2 2 (by decide) (by decide)

/-- The lower half of `lo`, bits 5-4. -/
theorem lo_lower (w : Word) : (field w 4 4).extractLsb' 0 2 = field w 4 2 := extractLsb'_field w 4 4 0 2 (by decide) (by decide)

/-- A two-bit field from its two flags. -/
theorem field_two (w : Word) (lo : Nat) (h : lo + 2 ≤ 32) :
    field w lo 2 h = BitVec.ofBool (flag w (lo + 1) (by omega)) ++ BitVec.ofBool (flag w lo (by omega)) := by
  have h0 := getLsbD_field w lo 2 0 h (by decide)
  have h1 := getLsbD_field w lo 2 1 h (by decide)
  simp only [Nat.add_zero] at h0
  rw [← h0, ← h1]
  generalize field w lo 2 h = b
  revert b
  decide

/-- A four-bit field from its two halves. -/
theorem field_four (w : Word) (lo : Nat) (h : lo + 4 ≤ 32) :
    field w lo 4 h = field w (lo + 2) 2 (by omega) ++ field w lo 2 (by omega) := by
  have h0 := extractLsb'_field w lo 4 0 2 h (by decide)
  have h1 := extractLsb'_field w lo 4 2 2 h (by decide)
  simp only [Nat.add_zero] at h0
  rw [← h0, ← h1]
  generalize field w lo 4 h = b
  revert b
  decide

end Sys2Proof
end

