-- ==== Sys2Proof/Laws/Encode.lean ====
section
/-! SUPPORT. What every field of each encoding format reads (spec/30_encoding.md R80 to R89), so that no proof about the encoder
takes a concatenation apart again. The ALU opcode and `lo` are given by their halves, as the decoder reads them; `fo` and `se`
(bits 4 and 7) are given where a format does not have them as cells of their own. -/

namespace Sys2Proof

/-- A one-bit field made of a Boolean reads as that Boolean. -/
@[simp] theorem ofBool_bne_zero (b : Bool) : (BitVec.ofBool b != 0#1) = b := by cases b <;> rfl

/-- A one-bit part of a bit vector, compared with zero, is that bit. -/
theorem extractLsb'_one_bne_zero {n : Nat} (b : BitVec n) (k : Nat) : (b.extractLsb' k 1 != 0#1) = b.getLsbD k := by
  have h : (b.extractLsb' k 1).getLsbD 0 = b.getLsbD k := by simp
  rw [← h]
  generalize b.extractLsb' k 1 = c
  revert c
  decide

theorem fields_formatDpShiftImm (cond : CondField) (opcode : OpcodeField) (sf : Bool) (rn rd : RegField) (shiftImm : ShiftImmField)
    (shift : ShiftField) (rm : RegField) :
    field (formatDpShiftImm cond opcode sf rn rd shiftImm shift rm) 28 4 = cond ∧
    field (formatDpShiftImm cond opcode sf rn rd shiftImm shift rm) 25 3 = 0b000#3 ∧
    field (formatDpShiftImm cond opcode sf rn rd shiftImm shift rm) 23 2 = opcode.extractLsb' 2 2 ∧
    field (formatDpShiftImm cond opcode sf rn rd shiftImm shift rm) 21 2 = opcode.extractLsb' 0 2 ∧
    flag (formatDpShiftImm cond opcode sf rn rd shiftImm shift rm) 20 = sf ∧
    field (formatDpShiftImm cond opcode sf rn rd shiftImm shift rm) 16 4 = rn ∧
    field (formatDpShiftImm cond opcode sf rn rd shiftImm shift rm) 12 4 = rd ∧
    field (formatDpShiftImm cond opcode sf rn rd shiftImm shift rm) 7 5 = shiftImm ∧
    field (formatDpShiftImm cond opcode sf rn rd shiftImm shift rm) 5 2 = shift ∧
    flag (formatDpShiftImm cond opcode sf rn rd shiftImm shift rm) 4 = false ∧
    field (formatDpShiftImm cond opcode sf rn rd shiftImm shift rm) 0 4 = rm := by
  refine ⟨?_, ?_, ?_, ?_, ?_, ?_, ?_, ?_, ?_, ?_, ?_⟩ <;>
    simp (disch := decide) only [flag, field, formatDpShiftImm, BitVec.extractLsb'_append_eq_of_add_le,
      BitVec.extractLsb'_append_eq_of_le] <;>
    simp

theorem fields_formatDpShiftReg (cond : CondField) (opcode : OpcodeField) (sf : Bool) (rn rd rs : RegField)
    (shift : ShiftField) (rm : RegField) :
    field (formatDpShiftReg cond opcode sf rn rd rs shift rm) 28 4 = cond ∧
    field (formatDpShiftReg cond opcode sf rn rd rs shift rm) 25 3 = 0b000#3 ∧
    field (formatDpShiftReg cond opcode sf rn rd rs shift rm) 23 2 = opcode.extractLsb' 2 2 ∧
    field (formatDpShiftReg cond opcode sf rn rd rs shift rm) 21 2 = opcode.extractLsb' 0 2 ∧
    flag (formatDpShiftReg cond opcode sf rn rd rs shift rm) 20 = sf ∧
    field (formatDpShiftReg cond opcode sf rn rd rs shift rm) 16 4 = rn ∧
    field (formatDpShiftReg cond opcode sf rn rd rs shift rm) 12 4 = rd ∧
    field (formatDpShiftReg cond opcode sf rn rd rs shift rm) 8 4 = rs ∧
    flag (formatDpShiftReg cond opcode sf rn rd rs shift rm) 7 = false ∧
    field (formatDpShiftReg cond opcode sf rn rd rs shift rm) 5 2 = shift ∧
    flag (formatDpShiftReg cond opcode sf rn rd rs shift rm) 4 = true ∧
    field (formatDpShiftReg cond opcode sf rn rd rs shift rm) 0 4 = rm := by
  refine ⟨?_, ?_, ?_, ?_, ?_, ?_, ?_, ?_, ?_, ?_, ?_, ?_⟩ <;>
    simp (disch := decide) only [flag, field, formatDpShiftReg, BitVec.extractLsb'_append_eq_of_add_le,
      BitVec.extractLsb'_append_eq_of_le] <;>
    simp

theorem fields_formatDpRotImm (cond : CondField) (opcode : OpcodeField) (sf : Bool) (rn rd : RegField) (rotate : RotateField)
    (imm8 : Imm8Field) :
    field (formatDpRotImm cond opcode sf rn rd rotate imm8) 28 4 = cond ∧
    field (formatDpRotImm cond opcode sf rn rd rotate imm8) 25 3 = 0b001#3 ∧
    field (formatDpRotImm cond opcode sf rn rd rotate imm8) 23 2 = opcode.extractLsb' 2 2 ∧
    field (formatDpRotImm cond opcode sf rn rd rotate imm8) 21 2 = opcode.extractLsb' 0 2 ∧
    flag (formatDpRotImm cond opcode sf rn rd rotate imm8) 20 = sf ∧
    field (formatDpRotImm cond opcode sf rn rd rotate imm8) 16 4 = rn ∧
    field (formatDpRotImm cond opcode sf rn rd rotate imm8) 12 4 = rd ∧
    field (formatDpRotImm cond opcode sf rn rd rotate imm8) 8 4 = rotate ∧
    field (formatDpRotImm cond opcode sf rn rd rotate imm8) 0 8 = imm8 := by
  refine ⟨?_, ?_, ?_, ?_, ?_, ?_, ?_, ?_, ?_⟩ <;>
    simp (disch := decide) only [flag, field, formatDpRotImm, BitVec.extractLsb'_append_eq_of_add_le,
      BitVec.extractLsb'_append_eq_of_le] <;>
    simp

theorem fields_formatMisc (cond : CondField) (r hi : Bool) (b19 b15 b11 lo b3 : BitVec 4) :
    field (formatMisc cond r hi b19 b15 b11 lo b3) 28 4 = cond ∧
    field (formatMisc cond r hi b19 b15 b11 lo b3) 25 3 = 0b000#3 ∧
    field (formatMisc cond r hi b19 b15 b11 lo b3) 23 2 = 0b10#2 ∧
    flag (formatMisc cond r hi b19 b15 b11 lo b3) 22 = r ∧
    flag (formatMisc cond r hi b19 b15 b11 lo b3) 21 = hi ∧
    flag (formatMisc cond r hi b19 b15 b11 lo b3) 20 = false ∧
    field (formatMisc cond r hi b19 b15 b11 lo b3) 16 4 = b19 ∧
    field (formatMisc cond r hi b19 b15 b11 lo b3) 12 4 = b15 ∧
    field (formatMisc cond r hi b19 b15 b11 lo b3) 8 4 = b11 ∧
    field (formatMisc cond r hi b19 b15 b11 lo b3) 6 2 = lo.extractLsb' 2 2 ∧
    field (formatMisc cond r hi b19 b15 b11 lo b3) 4 2 = lo.extractLsb' 0 2 ∧
    flag (formatMisc cond r hi b19 b15 b11 lo b3) 4 = lo.getLsbD 0 ∧
    flag (formatMisc cond r hi b19 b15 b11 lo b3) 7 = lo.getLsbD 3 ∧
    field (formatMisc cond r hi b19 b15 b11 lo b3) 0 4 = b3 := by
  refine ⟨?_, ?_, ?_, ?_, ?_, ?_, ?_, ?_, ?_, ?_, ?_, ?_, ?_, ?_⟩ <;>
    simp (disch := decide) only [flag, field, formatMisc, BitVec.extractLsb'_append_eq_of_add_le,
      BitVec.extractLsb'_append_eq_of_le] <;>
    simp [extractLsb'_one_bne_zero]

theorem fields_formatMajor1Band (cond : CondField) (r opLo : Bool) (mask b15 rotate : BitVec 4) (imm8 : Imm8Field) :
    field (formatMajor1Band cond r opLo mask b15 rotate imm8) 28 4 = cond ∧
    field (formatMajor1Band cond r opLo mask b15 rotate imm8) 25 3 = 0b001#3 ∧
    field (formatMajor1Band cond r opLo mask b15 rotate imm8) 23 2 = 0b10#2 ∧
    flag (formatMajor1Band cond r opLo mask b15 rotate imm8) 22 = r ∧
    flag (formatMajor1Band cond r opLo mask b15 rotate imm8) 21 = opLo ∧
    flag (formatMajor1Band cond r opLo mask b15 rotate imm8) 20 = false ∧
    field (formatMajor1Band cond r opLo mask b15 rotate imm8) 16 4 = mask ∧
    field (formatMajor1Band cond r opLo mask b15 rotate imm8) 12 4 = b15 ∧
    field (formatMajor1Band cond r opLo mask b15 rotate imm8) 8 4 = rotate ∧
    field (formatMajor1Band cond r opLo mask b15 rotate imm8) 0 8 = imm8 := by
  refine ⟨?_, ?_, ?_, ?_, ?_, ?_, ?_, ?_, ?_, ?_⟩ <;>
    simp (disch := decide) only [flag, field, formatMajor1Band, BitVec.extractLsb'_append_eq_of_add_le,
      BitVec.extractLsb'_append_eq_of_le] <;>
    simp

theorem fields_formatTransferImm (cond : CondField) (p u byte wb l : Bool) (rn rd : RegField) (imm12 : Imm12Field) :
    field (formatTransferImm cond p u byte wb l rn rd imm12) 28 4 = cond ∧
    field (formatTransferImm cond p u byte wb l rn rd imm12) 25 3 = 0b010#3 ∧
    flag (formatTransferImm cond p u byte wb l rn rd imm12) 24 = p ∧
    flag (formatTransferImm cond p u byte wb l rn rd imm12) 23 = u ∧
    flag (formatTransferImm cond p u byte wb l rn rd imm12) 22 = byte ∧
    flag (formatTransferImm cond p u byte wb l rn rd imm12) 21 = wb ∧
    flag (formatTransferImm cond p u byte wb l rn rd imm12) 20 = l ∧
    field (formatTransferImm cond p u byte wb l rn rd imm12) 16 4 = rn ∧
    field (formatTransferImm cond p u byte wb l rn rd imm12) 12 4 = rd ∧
    field (formatTransferImm cond p u byte wb l rn rd imm12) 0 12 = imm12 := by
  refine ⟨?_, ?_, ?_, ?_, ?_, ?_, ?_, ?_, ?_, ?_⟩ <;>
    simp (disch := decide) only [flag, field, formatTransferImm, BitVec.extractLsb'_append_eq_of_add_le,
      BitVec.extractLsb'_append_eq_of_le] <;>
    simp

theorem fields_formatTransferReg (cond : CondField) (p u byte wb l : Bool) (rn rd : RegField) (shiftImm : ShiftImmField) (shift : ShiftField)
    (rm : RegField) :
    field (formatTransferReg cond p u byte wb l rn rd shiftImm shift rm) 28 4 = cond ∧
    field (formatTransferReg cond p u byte wb l rn rd shiftImm shift rm) 25 3 = 0b011#3 ∧
    flag (formatTransferReg cond p u byte wb l rn rd shiftImm shift rm) 24 = p ∧
    flag (formatTransferReg cond p u byte wb l rn rd shiftImm shift rm) 23 = u ∧
    flag (formatTransferReg cond p u byte wb l rn rd shiftImm shift rm) 22 = byte ∧
    flag (formatTransferReg cond p u byte wb l rn rd shiftImm shift rm) 21 = wb ∧
    flag (formatTransferReg cond p u byte wb l rn rd shiftImm shift rm) 20 = l ∧
    field (formatTransferReg cond p u byte wb l rn rd shiftImm shift rm) 16 4 = rn ∧
    field (formatTransferReg cond p u byte wb l rn rd shiftImm shift rm) 12 4 = rd ∧
    field (formatTransferReg cond p u byte wb l rn rd shiftImm shift rm) 7 5 = shiftImm ∧
    field (formatTransferReg cond p u byte wb l rn rd shiftImm shift rm) 5 2 = shift ∧
    flag (formatTransferReg cond p u byte wb l rn rd shiftImm shift rm) 4 = false ∧
    field (formatTransferReg cond p u byte wb l rn rd shiftImm shift rm) 0 4 = rm := by
  refine ⟨?_, ?_, ?_, ?_, ?_, ?_, ?_, ?_, ?_, ?_, ?_, ?_, ?_⟩ <;>
    simp (disch := decide) only [flag, field, formatTransferReg, BitVec.extractLsb'_append_eq_of_add_le,
      BitVec.extractLsb'_append_eq_of_le] <;>
    simp

theorem fields_formatBranch (cond : CondField) (link : Bool) (offset24 : Offset24Field) :
    field (formatBranch cond link offset24) 28 4 = cond ∧
    field (formatBranch cond link offset24) 25 3 = 0b101#3 ∧
    flag (formatBranch cond link offset24) 24 = link ∧
    field (formatBranch cond link offset24) 0 24 = offset24 := by
  refine ⟨?_, ?_, ?_, ?_⟩ <;>
    simp (disch := decide) only [flag, field, formatBranch, BitVec.extractLsb'_append_eq_of_add_le,
      BitVec.extractLsb'_append_eq_of_le] <;>
    simp

theorem fields_formatFixed (cond : CondField) (fixed : BitVec 28) :
    field (formatFixed cond fixed) 28 4 = cond ∧
    field (formatFixed cond fixed) 25 3 = fixed.extractLsb' 25 3 ∧
    flag (formatFixed cond fixed) 4 = fixed.getLsbD 4 ∧
    flag (formatFixed cond fixed) 7 = fixed.getLsbD 7 := by
  refine ⟨?_, ?_, ?_, ?_⟩ <;>
    simp (disch := decide) only [flag, field, formatFixed, BitVec.extractLsb'_append_eq_of_add_le,
      BitVec.extractLsb'_append_eq_of_le] <;>
    simp [extractLsb'_one_bne_zero]

end Sys2Proof
end

