-- ==== Sys2Proof/Laws/Operands.lean ====
section
/-! SUPPORT. One law for each shared operand operation, so that no proof unfolds it again. -/

namespace Sys2Proof.Machine

@[simp] theorem reg_index (r : RegField) : (reg r).index = r.toFin := rfl

/-- R65: the mapper is a bijection, so two codes with one condition are one code (R23). -/
theorem condTable_injective {a b : CondField} (h : condTable a = condTable b) : a = b := by
  revert a b
  decide

/-- R74: no two codes name one shift type. -/
theorem shiftTable_injective {a b : ShiftField} (h : shiftTable a = shiftTable b) : a = b := by
  revert a b
  decide

/-- R70: no two codes name one ALU operation. -/
theorem aluTable_injective {a b : OpcodeField} (h : aluTable a = aluTable b) : a = b := by
  revert a b
  decide

/-- R75: the lanes of a word's mask are its bits 19 to 16. -/
theorem maskOf_field (w : Word) :
    maskOf (field w 16 4) = ⟨flag w 16, flag w 17, flag w 18, flag w 19⟩ := by
  simp only [maskOf, getLsbD_field w 16 4 0 (by decide) (by decide), getLsbD_field w 16 4 1 (by decide) (by decide),
    getLsbD_field w 16 4 2 (by decide) (by decide), getLsbD_field w 16 4 3 (by decide) (by decide), Nat.reduceAdd]

@[simp] theorem indexingOf_post (wb : Bool) : indexingOf false wb = .postIndexed := rfl
@[simp] theorem indexingOf_pre : indexingOf true true = .preIndexed := rfl
@[simp] theorem indexingOf_offset : indexingOf true false = .offset := rfl

/-- R162: an unprivileged transfer is post-indexed. -/
theorem indexingOf_of_unprivileged {p wb : Bool} (h : unprivileged p wb = true) : indexingOf p wb = .postIndexed := by
  cases p <;> simp_all [unprivileged]

@[simp] theorem mode2_base (p u wb : Bool) (rn : RegField) (o : Offset2) : (mode2 p u wb rn o).base = reg rn := rfl
@[simp] theorem mode2_subtract (p u wb : Bool) (rn : RegField) (o : Offset2) : (mode2 p u wb rn o).subtract = !u := rfl
@[simp] theorem mode2_indexing (p u wb : Bool) (rn : RegField) (o : Offset2) :
    (mode2 p u wb rn o).indexing = indexingOf p wb := rfl
@[simp] theorem mode2_offset (p u wb : Bool) (rn : RegField) (o : Offset2) : (mode2 p u wb rn o).offset = o := rfl

/-- R42, R79: the bytes of a word's branch offset. -/
theorem offsetBytes_field (w : Word) : offsetBytes (field w 0 24) = ⟨field w 0 8, field w 8 8, field w 16 8⟩ := by
  simp only [offsetBytes, extractLsb'_field w 0 24 0 8 (by decide) (by decide),
    extractLsb'_field w 0 24 8 8 (by decide) (by decide), extractLsb'_field w 0 24 16 8 (by decide) (by decide), Nat.reduceAdd]

/-- R42: the bytes denote the 24-bit number they were cut from. -/
theorem offsetBytes_value (o : Offset24Field) : (offsetBytes o).value = o.toNat := by
  have h := o.isLt
  simp only [OffsetBytes.value, offsetBytes, BitVec.extractLsb'_toNat, Nat.shiftRight_eq_div_pow]
  omega

/-- R92: what `decode_arm` answers is decided by its operation alone. -/
theorem decodeArm_of_ok {w : Word} {op : Operation} (h : operationOf w = .ok op) :
    decodeArm w = .ok ⟨condTable (condOf w), op⟩ := by
  simp [decodeArm, h]

theorem decodeArm_of_error {w : Word} {f : Family} (h : operationOf w = .error f) : decodeArm w = .unresolved f := by
  simp [decodeArm, h]

end Sys2Proof.Machine
end

