-- ==== Sys2Proof/Laws/PerInstr.lean ====
section
/-! SUPPORT. What holds of every instruction as syntax, one lemma per constructor. `CondFirst`: the word of an instruction
holds the instruction's condition in bits 31-28, whatever its row (spec/30_encoding.md R62, R65). -/

namespace Sys2Proof.Laws.CondFirst

/-- The condition stands in the top four bits of the word. -/
def Statement (i : Instr) : Prop := field (encode i) 28 4 = i.cond

theorem andShiftImm (cond : CondField) (sf : Bool) (rn rd : RegField) (shiftImm : ShiftImmField) (shift : ShiftField) (rm : RegField) : Statement (.andShiftImm cond sf rn rd shiftImm shift rm) :=
  (fields_formatDpShiftImm ..).1

theorem andShiftReg (cond : CondField) (sf : Bool) (rn rd rs : RegField) (shift : ShiftField) (rm : RegField) : Statement (.andShiftReg cond sf rn rd rs shift rm) :=
  (fields_formatDpShiftReg ..).1

theorem andRotImm (cond : CondField) (sf : Bool) (rn rd : RegField) (rotate : RotateField) (imm8 : Imm8Field) : Statement (.andRotImm cond sf rn rd rotate imm8) :=
  (fields_formatDpRotImm ..).1

theorem eorShiftImm (cond : CondField) (sf : Bool) (rn rd : RegField) (shiftImm : ShiftImmField) (shift : ShiftField) (rm : RegField) : Statement (.eorShiftImm cond sf rn rd shiftImm shift rm) :=
  (fields_formatDpShiftImm ..).1

theorem eorShiftReg (cond : CondField) (sf : Bool) (rn rd rs : RegField) (shift : ShiftField) (rm : RegField) : Statement (.eorShiftReg cond sf rn rd rs shift rm) :=
  (fields_formatDpShiftReg ..).1

theorem eorRotImm (cond : CondField) (sf : Bool) (rn rd : RegField) (rotate : RotateField) (imm8 : Imm8Field) : Statement (.eorRotImm cond sf rn rd rotate imm8) :=
  (fields_formatDpRotImm ..).1

theorem subShiftImm (cond : CondField) (sf : Bool) (rn rd : RegField) (shiftImm : ShiftImmField) (shift : ShiftField) (rm : RegField) : Statement (.subShiftImm cond sf rn rd shiftImm shift rm) :=
  (fields_formatDpShiftImm ..).1

theorem subShiftReg (cond : CondField) (sf : Bool) (rn rd rs : RegField) (shift : ShiftField) (rm : RegField) : Statement (.subShiftReg cond sf rn rd rs shift rm) :=
  (fields_formatDpShiftReg ..).1

theorem subRotImm (cond : CondField) (sf : Bool) (rn rd : RegField) (rotate : RotateField) (imm8 : Imm8Field) : Statement (.subRotImm cond sf rn rd rotate imm8) :=
  (fields_formatDpRotImm ..).1

theorem rsbShiftImm (cond : CondField) (sf : Bool) (rn rd : RegField) (shiftImm : ShiftImmField) (shift : ShiftField) (rm : RegField) : Statement (.rsbShiftImm cond sf rn rd shiftImm shift rm) :=
  (fields_formatDpShiftImm ..).1

theorem rsbShiftReg (cond : CondField) (sf : Bool) (rn rd rs : RegField) (shift : ShiftField) (rm : RegField) : Statement (.rsbShiftReg cond sf rn rd rs shift rm) :=
  (fields_formatDpShiftReg ..).1

theorem rsbRotImm (cond : CondField) (sf : Bool) (rn rd : RegField) (rotate : RotateField) (imm8 : Imm8Field) : Statement (.rsbRotImm cond sf rn rd rotate imm8) :=
  (fields_formatDpRotImm ..).1

theorem addShiftImm (cond : CondField) (sf : Bool) (rn rd : RegField) (shiftImm : ShiftImmField) (shift : ShiftField) (rm : RegField) : Statement (.addShiftImm cond sf rn rd shiftImm shift rm) :=
  (fields_formatDpShiftImm ..).1

theorem addShiftReg (cond : CondField) (sf : Bool) (rn rd rs : RegField) (shift : ShiftField) (rm : RegField) : Statement (.addShiftReg cond sf rn rd rs shift rm) :=
  (fields_formatDpShiftReg ..).1

theorem addRotImm (cond : CondField) (sf : Bool) (rn rd : RegField) (rotate : RotateField) (imm8 : Imm8Field) : Statement (.addRotImm cond sf rn rd rotate imm8) :=
  (fields_formatDpRotImm ..).1

theorem adcShiftImm (cond : CondField) (sf : Bool) (rn rd : RegField) (shiftImm : ShiftImmField) (shift : ShiftField) (rm : RegField) : Statement (.adcShiftImm cond sf rn rd shiftImm shift rm) :=
  (fields_formatDpShiftImm ..).1

theorem adcShiftReg (cond : CondField) (sf : Bool) (rn rd rs : RegField) (shift : ShiftField) (rm : RegField) : Statement (.adcShiftReg cond sf rn rd rs shift rm) :=
  (fields_formatDpShiftReg ..).1

theorem adcRotImm (cond : CondField) (sf : Bool) (rn rd : RegField) (rotate : RotateField) (imm8 : Imm8Field) : Statement (.adcRotImm cond sf rn rd rotate imm8) :=
  (fields_formatDpRotImm ..).1

theorem sbcShiftImm (cond : CondField) (sf : Bool) (rn rd : RegField) (shiftImm : ShiftImmField) (shift : ShiftField) (rm : RegField) : Statement (.sbcShiftImm cond sf rn rd shiftImm shift rm) :=
  (fields_formatDpShiftImm ..).1

theorem sbcShiftReg (cond : CondField) (sf : Bool) (rn rd rs : RegField) (shift : ShiftField) (rm : RegField) : Statement (.sbcShiftReg cond sf rn rd rs shift rm) :=
  (fields_formatDpShiftReg ..).1

theorem sbcRotImm (cond : CondField) (sf : Bool) (rn rd : RegField) (rotate : RotateField) (imm8 : Imm8Field) : Statement (.sbcRotImm cond sf rn rd rotate imm8) :=
  (fields_formatDpRotImm ..).1

theorem rscShiftImm (cond : CondField) (sf : Bool) (rn rd : RegField) (shiftImm : ShiftImmField) (shift : ShiftField) (rm : RegField) : Statement (.rscShiftImm cond sf rn rd shiftImm shift rm) :=
  (fields_formatDpShiftImm ..).1

theorem rscShiftReg (cond : CondField) (sf : Bool) (rn rd rs : RegField) (shift : ShiftField) (rm : RegField) : Statement (.rscShiftReg cond sf rn rd rs shift rm) :=
  (fields_formatDpShiftReg ..).1

theorem rscRotImm (cond : CondField) (sf : Bool) (rn rd : RegField) (rotate : RotateField) (imm8 : Imm8Field) : Statement (.rscRotImm cond sf rn rd rotate imm8) :=
  (fields_formatDpRotImm ..).1

theorem tstShiftImm (cond : CondField) (rn : RegField) (shiftImm : ShiftImmField) (shift : ShiftField) (rm : RegField) : Statement (.tstShiftImm cond rn shiftImm shift rm) :=
  (fields_formatDpShiftImm ..).1

theorem tstShiftReg (cond : CondField) (rn rs : RegField) (shift : ShiftField) (rm : RegField) : Statement (.tstShiftReg cond rn rs shift rm) :=
  (fields_formatDpShiftReg ..).1

theorem tstRotImm (cond : CondField) (rn : RegField) (rotate : RotateField) (imm8 : Imm8Field) : Statement (.tstRotImm cond rn rotate imm8) :=
  (fields_formatDpRotImm ..).1

theorem teqShiftImm (cond : CondField) (rn : RegField) (shiftImm : ShiftImmField) (shift : ShiftField) (rm : RegField) : Statement (.teqShiftImm cond rn shiftImm shift rm) :=
  (fields_formatDpShiftImm ..).1

theorem teqShiftReg (cond : CondField) (rn rs : RegField) (shift : ShiftField) (rm : RegField) : Statement (.teqShiftReg cond rn rs shift rm) :=
  (fields_formatDpShiftReg ..).1

theorem teqRotImm (cond : CondField) (rn : RegField) (rotate : RotateField) (imm8 : Imm8Field) : Statement (.teqRotImm cond rn rotate imm8) :=
  (fields_formatDpRotImm ..).1

theorem cmpShiftImm (cond : CondField) (rn : RegField) (shiftImm : ShiftImmField) (shift : ShiftField) (rm : RegField) : Statement (.cmpShiftImm cond rn shiftImm shift rm) :=
  (fields_formatDpShiftImm ..).1

theorem cmpShiftReg (cond : CondField) (rn rs : RegField) (shift : ShiftField) (rm : RegField) : Statement (.cmpShiftReg cond rn rs shift rm) :=
  (fields_formatDpShiftReg ..).1

theorem cmpRotImm (cond : CondField) (rn : RegField) (rotate : RotateField) (imm8 : Imm8Field) : Statement (.cmpRotImm cond rn rotate imm8) :=
  (fields_formatDpRotImm ..).1

theorem cmnShiftImm (cond : CondField) (rn : RegField) (shiftImm : ShiftImmField) (shift : ShiftField) (rm : RegField) : Statement (.cmnShiftImm cond rn shiftImm shift rm) :=
  (fields_formatDpShiftImm ..).1

theorem cmnShiftReg (cond : CondField) (rn rs : RegField) (shift : ShiftField) (rm : RegField) : Statement (.cmnShiftReg cond rn rs shift rm) :=
  (fields_formatDpShiftReg ..).1

theorem cmnRotImm (cond : CondField) (rn : RegField) (rotate : RotateField) (imm8 : Imm8Field) : Statement (.cmnRotImm cond rn rotate imm8) :=
  (fields_formatDpRotImm ..).1

theorem orrShiftImm (cond : CondField) (sf : Bool) (rn rd : RegField) (shiftImm : ShiftImmField) (shift : ShiftField) (rm : RegField) : Statement (.orrShiftImm cond sf rn rd shiftImm shift rm) :=
  (fields_formatDpShiftImm ..).1

theorem orrShiftReg (cond : CondField) (sf : Bool) (rn rd rs : RegField) (shift : ShiftField) (rm : RegField) : Statement (.orrShiftReg cond sf rn rd rs shift rm) :=
  (fields_formatDpShiftReg ..).1

theorem orrRotImm (cond : CondField) (sf : Bool) (rn rd : RegField) (rotate : RotateField) (imm8 : Imm8Field) : Statement (.orrRotImm cond sf rn rd rotate imm8) :=
  (fields_formatDpRotImm ..).1

theorem movShiftImm (cond : CondField) (sf : Bool) (rd : RegField) (shiftImm : ShiftImmField) (shift : ShiftField) (rm : RegField) : Statement (.movShiftImm cond sf rd shiftImm shift rm) :=
  (fields_formatDpShiftImm ..).1

theorem movShiftReg (cond : CondField) (sf : Bool) (rd rs : RegField) (shift : ShiftField) (rm : RegField) : Statement (.movShiftReg cond sf rd rs shift rm) :=
  (fields_formatDpShiftReg ..).1

theorem movRotImm (cond : CondField) (sf : Bool) (rd : RegField) (rotate : RotateField) (imm8 : Imm8Field) : Statement (.movRotImm cond sf rd rotate imm8) :=
  (fields_formatDpRotImm ..).1

theorem bicShiftImm (cond : CondField) (sf : Bool) (rn rd : RegField) (shiftImm : ShiftImmField) (shift : ShiftField) (rm : RegField) : Statement (.bicShiftImm cond sf rn rd shiftImm shift rm) :=
  (fields_formatDpShiftImm ..).1

theorem bicShiftReg (cond : CondField) (sf : Bool) (rn rd rs : RegField) (shift : ShiftField) (rm : RegField) : Statement (.bicShiftReg cond sf rn rd rs shift rm) :=
  (fields_formatDpShiftReg ..).1

theorem bicRotImm (cond : CondField) (sf : Bool) (rn rd : RegField) (rotate : RotateField) (imm8 : Imm8Field) : Statement (.bicRotImm cond sf rn rd rotate imm8) :=
  (fields_formatDpRotImm ..).1

theorem mvnShiftImm (cond : CondField) (sf : Bool) (rd : RegField) (shiftImm : ShiftImmField) (shift : ShiftField) (rm : RegField) : Statement (.mvnShiftImm cond sf rd shiftImm shift rm) :=
  (fields_formatDpShiftImm ..).1

theorem mvnShiftReg (cond : CondField) (sf : Bool) (rd rs : RegField) (shift : ShiftField) (rm : RegField) : Statement (.mvnShiftReg cond sf rd rs shift rm) :=
  (fields_formatDpShiftReg ..).1

theorem mvnRotImm (cond : CondField) (sf : Bool) (rd : RegField) (rotate : RotateField) (imm8 : Imm8Field) : Statement (.mvnRotImm cond sf rd rotate imm8) :=
  (fields_formatDpRotImm ..).1

theorem mrs (cond : CondField) (r : Bool) (rd : RegField) : Statement (.mrs cond r rd) :=
  (fields_formatMisc ..).1

theorem msr (cond : CondField) (r : Bool) (mask : MaskField) (rm : RegField) : Statement (.msr cond r mask rm) :=
  (fields_formatMisc ..).1

theorem bx (cond : CondField) (rm : RegField) : Statement (.bx cond rm) :=
  (fields_formatMisc ..).1

theorem undefMiscHi0Lo1 (cond : CondField) : Statement (.undefMiscHi0Lo1 cond) :=
  (fields_formatMisc ..).1

theorem undefMiscHi0Lo2 (cond : CondField) : Statement (.undefMiscHi0Lo2 cond) :=
  (fields_formatMisc ..).1

theorem undefMiscHi0Lo3 (cond : CondField) : Statement (.undefMiscHi0Lo3 cond) :=
  (fields_formatMisc ..).1

theorem undefMiscHi0Lo4 (cond : CondField) : Statement (.undefMiscHi0Lo4 cond) :=
  (fields_formatMisc ..).1

theorem undefMiscHi0Lo5 (cond : CondField) : Statement (.undefMiscHi0Lo5 cond) :=
  (fields_formatMisc ..).1

theorem undefMiscHi0Lo6 (cond : CondField) : Statement (.undefMiscHi0Lo6 cond) :=
  (fields_formatMisc ..).1

theorem undefMiscHi0Lo7 (cond : CondField) : Statement (.undefMiscHi0Lo7 cond) :=
  (fields_formatMisc ..).1

theorem undefMiscHi0Lo8 (cond : CondField) : Statement (.undefMiscHi0Lo8 cond) :=
  (fields_formatMisc ..).1

theorem undefMiscHi0LoA (cond : CondField) : Statement (.undefMiscHi0LoA cond) :=
  (fields_formatMisc ..).1

theorem undefMiscHi0LoC (cond : CondField) : Statement (.undefMiscHi0LoC cond) :=
  (fields_formatMisc ..).1

theorem undefMiscHi0LoE (cond : CondField) : Statement (.undefMiscHi0LoE cond) :=
  (fields_formatMisc ..).1

theorem undefMiscHi1Lo2 (cond : CondField) : Statement (.undefMiscHi1Lo2 cond) :=
  (fields_formatMisc ..).1

theorem undefMiscHi1Lo3 (cond : CondField) : Statement (.undefMiscHi1Lo3 cond) :=
  (fields_formatMisc ..).1

theorem undefMiscHi1Lo4 (cond : CondField) : Statement (.undefMiscHi1Lo4 cond) :=
  (fields_formatMisc ..).1

theorem undefMiscHi1Lo5 (cond : CondField) : Statement (.undefMiscHi1Lo5 cond) :=
  (fields_formatMisc ..).1

theorem undefMiscHi1Lo6 (cond : CondField) : Statement (.undefMiscHi1Lo6 cond) :=
  (fields_formatMisc ..).1

theorem undefMiscHi1Lo7 (cond : CondField) : Statement (.undefMiscHi1Lo7 cond) :=
  (fields_formatMisc ..).1

theorem undefMiscHi1Lo8 (cond : CondField) : Statement (.undefMiscHi1Lo8 cond) :=
  (fields_formatMisc ..).1

theorem undefMiscHi1LoA (cond : CondField) : Statement (.undefMiscHi1LoA cond) :=
  (fields_formatMisc ..).1

theorem undefMiscHi1LoC (cond : CondField) : Statement (.undefMiscHi1LoC cond) :=
  (fields_formatMisc ..).1

theorem undefMiscHi1LoE (cond : CondField) : Statement (.undefMiscHi1LoE cond) :=
  (fields_formatMisc ..).1

theorem msrImm (cond : CondField) (r : Bool) (mask : MaskField) (rotate : RotateField) (imm8 : Imm8Field) : Statement (.msrImm cond r mask rotate imm8) :=
  (fields_formatMajor1Band ..).1

theorem undefMajor1Band (cond : CondField) : Statement (.undefMajor1Band cond) :=
  (fields_formatMajor1Band ..).1

theorem ldrImmP1 (cond : CondField) (p u byte wb l : Bool) (rn rd : RegField) (imm12 : Imm12Field) : Statement (.ldrImmP1 cond p u byte wb l rn rd imm12) :=
  (fields_formatTransferImm ..).1

theorem ldrImmP0 (cond : CondField) (p u byte wb l : Bool) (rn rd : RegField) (imm12 : Imm12Field) : Statement (.ldrImmP0 cond p u byte wb l rn rd imm12) :=
  (fields_formatTransferImm ..).1

theorem ldrtImm (cond : CondField) (p u byte wb l : Bool) (rn rd : RegField) (imm12 : Imm12Field) : Statement (.ldrtImm cond p u byte wb l rn rd imm12) :=
  (fields_formatTransferImm ..).1

theorem strImmP1 (cond : CondField) (p u byte wb l : Bool) (rn rd : RegField) (imm12 : Imm12Field) : Statement (.strImmP1 cond p u byte wb l rn rd imm12) :=
  (fields_formatTransferImm ..).1

theorem strImmP0 (cond : CondField) (p u byte wb l : Bool) (rn rd : RegField) (imm12 : Imm12Field) : Statement (.strImmP0 cond p u byte wb l rn rd imm12) :=
  (fields_formatTransferImm ..).1

theorem strtImm (cond : CondField) (p u byte wb l : Bool) (rn rd : RegField) (imm12 : Imm12Field) : Statement (.strtImm cond p u byte wb l rn rd imm12) :=
  (fields_formatTransferImm ..).1

theorem ldrbImmP1 (cond : CondField) (p u byte wb l : Bool) (rn rd : RegField) (imm12 : Imm12Field) : Statement (.ldrbImmP1 cond p u byte wb l rn rd imm12) :=
  (fields_formatTransferImm ..).1

theorem ldrbImmP0 (cond : CondField) (p u byte wb l : Bool) (rn rd : RegField) (imm12 : Imm12Field) : Statement (.ldrbImmP0 cond p u byte wb l rn rd imm12) :=
  (fields_formatTransferImm ..).1

theorem ldrbtImm (cond : CondField) (p u byte wb l : Bool) (rn rd : RegField) (imm12 : Imm12Field) : Statement (.ldrbtImm cond p u byte wb l rn rd imm12) :=
  (fields_formatTransferImm ..).1

theorem strbImmP1 (cond : CondField) (p u byte wb l : Bool) (rn rd : RegField) (imm12 : Imm12Field) : Statement (.strbImmP1 cond p u byte wb l rn rd imm12) :=
  (fields_formatTransferImm ..).1

theorem strbImmP0 (cond : CondField) (p u byte wb l : Bool) (rn rd : RegField) (imm12 : Imm12Field) : Statement (.strbImmP0 cond p u byte wb l rn rd imm12) :=
  (fields_formatTransferImm ..).1

theorem strbtImm (cond : CondField) (p u byte wb l : Bool) (rn rd : RegField) (imm12 : Imm12Field) : Statement (.strbtImm cond p u byte wb l rn rd imm12) :=
  (fields_formatTransferImm ..).1

theorem ldrRegP1 (cond : CondField) (p u byte wb l : Bool) (rn rd : RegField) (shiftImm : ShiftImmField) (shift : ShiftField) (rm : RegField) : Statement (.ldrRegP1 cond p u byte wb l rn rd shiftImm shift rm) :=
  (fields_formatTransferReg ..).1

theorem ldrRegP0 (cond : CondField) (p u byte wb l : Bool) (rn rd : RegField) (shiftImm : ShiftImmField) (shift : ShiftField) (rm : RegField) : Statement (.ldrRegP0 cond p u byte wb l rn rd shiftImm shift rm) :=
  (fields_formatTransferReg ..).1

theorem ldrtReg (cond : CondField) (p u byte wb l : Bool) (rn rd : RegField) (shiftImm : ShiftImmField) (shift : ShiftField) (rm : RegField) : Statement (.ldrtReg cond p u byte wb l rn rd shiftImm shift rm) :=
  (fields_formatTransferReg ..).1

theorem strRegP1 (cond : CondField) (p u byte wb l : Bool) (rn rd : RegField) (shiftImm : ShiftImmField) (shift : ShiftField) (rm : RegField) : Statement (.strRegP1 cond p u byte wb l rn rd shiftImm shift rm) :=
  (fields_formatTransferReg ..).1

theorem strRegP0 (cond : CondField) (p u byte wb l : Bool) (rn rd : RegField) (shiftImm : ShiftImmField) (shift : ShiftField) (rm : RegField) : Statement (.strRegP0 cond p u byte wb l rn rd shiftImm shift rm) :=
  (fields_formatTransferReg ..).1

theorem strtReg (cond : CondField) (p u byte wb l : Bool) (rn rd : RegField) (shiftImm : ShiftImmField) (shift : ShiftField) (rm : RegField) : Statement (.strtReg cond p u byte wb l rn rd shiftImm shift rm) :=
  (fields_formatTransferReg ..).1

theorem ldrbRegP1 (cond : CondField) (p u byte wb l : Bool) (rn rd : RegField) (shiftImm : ShiftImmField) (shift : ShiftField) (rm : RegField) : Statement (.ldrbRegP1 cond p u byte wb l rn rd shiftImm shift rm) :=
  (fields_formatTransferReg ..).1

theorem ldrbRegP0 (cond : CondField) (p u byte wb l : Bool) (rn rd : RegField) (shiftImm : ShiftImmField) (shift : ShiftField) (rm : RegField) : Statement (.ldrbRegP0 cond p u byte wb l rn rd shiftImm shift rm) :=
  (fields_formatTransferReg ..).1

theorem ldrbtReg (cond : CondField) (p u byte wb l : Bool) (rn rd : RegField) (shiftImm : ShiftImmField) (shift : ShiftField) (rm : RegField) : Statement (.ldrbtReg cond p u byte wb l rn rd shiftImm shift rm) :=
  (fields_formatTransferReg ..).1

theorem strbRegP1 (cond : CondField) (p u byte wb l : Bool) (rn rd : RegField) (shiftImm : ShiftImmField) (shift : ShiftField) (rm : RegField) : Statement (.strbRegP1 cond p u byte wb l rn rd shiftImm shift rm) :=
  (fields_formatTransferReg ..).1

theorem strbRegP0 (cond : CondField) (p u byte wb l : Bool) (rn rd : RegField) (shiftImm : ShiftImmField) (shift : ShiftField) (rm : RegField) : Statement (.strbRegP0 cond p u byte wb l rn rd shiftImm shift rm) :=
  (fields_formatTransferReg ..).1

theorem strbtReg (cond : CondField) (p u byte wb l : Bool) (rn rd : RegField) (shiftImm : ShiftImmField) (shift : ShiftField) (rm : RegField) : Statement (.strbtReg cond p u byte wb l rn rd shiftImm shift rm) :=
  (fields_formatTransferReg ..).1

theorem undefMajor3Bit4 (cond : CondField) : Statement (.undefMajor3Bit4 cond) :=
  (fields_formatFixed ..).1

theorem b (cond : CondField) (link : Bool) (offset24 : Offset24Field) : Statement (.b cond link offset24) :=
  (fields_formatBranch ..).1

theorem bl (cond : CondField) (link : Bool) (offset24 : Offset24Field) : Statement (.bl cond link offset24) :=
  (fields_formatBranch ..).1

theorem undefMajor4 (cond : CondField) : Statement (.undefMajor4 cond) :=
  (fields_formatFixed ..).1

theorem undefMajor6 (cond : CondField) : Statement (.undefMajor6 cond) :=
  (fields_formatFixed ..).1

theorem undefMajor7 (cond : CondField) : Statement (.undefMajor7 cond) :=
  (fields_formatFixed ..).1

theorem unresolvedMultiplyExtendedLoadStore (cond : CondField) : Statement (.unresolvedMultiplyExtendedLoadStore cond) :=
  (fields_formatFixed ..).1

end Sys2Proof.Laws.CondFirst
end

