-- ==== Sys2Proof/Laws/State.lean ====
section
/-! SUPPORT. What each update of the state does to each field, true by unfolding, and what the shared operations can answer. -/

namespace Sys2Proof.Machine

@[simp] theorem reset_instr : State.reset.instr = 0x00000000#32 := rfl
@[simp] theorem reset_feed : State.reset.feed = [] := rfl

@[simp] theorem withFetchWord_instr (s : State) (n w : Nat) : (s.withFetchWord n w).instr = s.instr := rfl
@[simp] theorem withFetchWord_result (s : State) (n w : Nat) : (s.withFetchWord n w).result = s.result := rfl
@[simp] theorem withFetchWord_feed (s : State) (n w : Nat) :
    (s.withFetchWord n w).feed = BitVec.ofNat 32 (w % 2 ^ n) :: s.feed := rfl

@[simp] theorem present_nil (v : Word) (r : DecodeResult) : (State.mk v r []).present = State.mk v r [] := rfl
@[simp] theorem present_cons (v w : Word) (r : DecodeResult) (ws : List Word) :
    (State.mk v r (w :: ws)).present = State.mk w r ws := rfl

/-- Presenting a word never touches the output port. -/
@[simp] theorem present_result (s : State) : s.present.result = s.result := by
  obtain ⟨v, r, f⟩ := s
  cases f <;> rfl

/-- What is still to be presented afterwards. -/
theorem present_feed (s : State) : s.present.feed = s.feed.tail := by
  obtain ⟨v, r, f⟩ := s
  cases f <;> rfl

/-- The word at the input afterwards: the feeder's next one, or the one that stood there. -/
theorem present_instr (s : State) : s.present.instr = s.feed.headD s.instr := by
  obtain ⟨v, r, f⟩ := s
  cases f <;> rfl

/-- Everything that driving the output port can answer. -/
theorem drive_eq_next_iff (s t : State) (c : CondField) (op : Operation) :
    s.drive c op = .next t ↔ t = { s with result := .ok ⟨condTable c, op⟩ } := by
  constructor
  · intro h
    cases h
    rfl
  · rintro rfl
    rfl

/-- Driving the output port never refuses. -/
theorem drive_ne_refused (s : State) (c : CondField) (op : Operation) (r : Refusal) : s.drive c op ≠ .refused r := by
  intro h
  cases h

/-- Refusing gives no next state. -/
theorem refuse_ne_next (s t : State) (f : Family) : s.refuse f ≠ .next t := by
  intro h
  cases h

/-- A step is the meaning of the word presented (R92). -/
theorem step_eq (s : State) : step s = exec (decode s.present.instr) s.present := rfl

end Sys2Proof.Machine
end

