-- ==== Sys2Proof/Tests/Slice0.lean ====
section
/-! SUPPORT. The model's own tests. Every expected result is taken from the spec: the words of the decode tests are written cell
by cell from the format tables of spec/30_encoding.md section 8 and spec/opcode_table.json, and the outputs from
spec/95_test_vectors.md. At the end stands, for each obligation that has hypotheses, a concrete witness of them. -/

namespace Sys2Proof.Tests

open Sys2Proof.Machine

/-! ## WellFormed: an ill-formed term for each check -/

theorem test_wf_p1_needs_p : Instr.wf (.ldrImmP1 0xE#4 false true false false true 0x1#4 0x0#4 0x004#12) = false := by decide

theorem test_wf_p1_needs_its_byte : Instr.wf (.strRegP1 0xE#4 true true true false false 0x1#4 0x0#4 0x00#5 0x0#2 0x2#4) = false := by decide

theorem test_wf_p1_needs_its_l : Instr.wf (.ldrbImmP1 0xE#4 true true true false false 0x1#4 0x0#4 0x004#12) = false := by decide

theorem test_wf_p0_needs_p_clear : Instr.wf (.strbImmP0 0xE#4 true true true false false 0x1#4 0x0#4 0x004#12) = false := by decide

theorem test_wf_p0_needs_wb_clear : Instr.wf (.ldrRegP0 0xE#4 false true false true true 0x1#4 0x0#4 0x00#5 0x0#2 0x2#4) = false := by decide

theorem test_wf_p0_needs_its_byte : Instr.wf (.ldrbRegP0 0xE#4 false true false false true 0x1#4 0x0#4 0x00#5 0x0#2 0x2#4) = false := by decide

theorem test_wf_p0_needs_its_l : Instr.wf (.strImmP0 0xE#4 false true false false true 0x1#4 0x0#4 0x004#12) = false := by decide

theorem test_wf_t_needs_p_clear : Instr.wf (.ldrtImm 0xE#4 true true false true true 0x1#4 0x0#4 0x004#12) = false := by decide

theorem test_wf_t_needs_wb : Instr.wf (.strtReg 0xE#4 false true false false false 0x1#4 0x0#4 0x00#5 0x0#2 0x2#4) = false := by decide

theorem test_wf_t_needs_its_byte : Instr.wf (.ldrbtReg 0xE#4 false true false true true 0x1#4 0x0#4 0x00#5 0x0#2 0x2#4) = false := by decide

theorem test_wf_t_needs_its_l : Instr.wf (.strbtImm 0xE#4 false true true true true 0x1#4 0x0#4 0x004#12) = false := by decide

theorem test_wf_b_needs_link_clear : Instr.wf (.b 0xE#4 true 0x000000#24) = false := by decide

theorem test_wf_bl_needs_link : Instr.wf (.bl 0xE#4 false 0x000000#24) = false := by decide

/-! ## Decoding: a word of every row, written out from its format; ignored bits are set, in part or all -/

/-- spec/30_encoding.md R80. -/
theorem test_decode_dp_shift_imm :
    decode 0b1110_000_0000_1_0001_0010_00110_10_0_0001#32 = .andShiftImm 0xE#4 true 0x1#4 0x2#4 0x6#5 0x2#2 0x1#4 ∧
    decode 0b1110_000_0001_0_1101_1101_00100_01_0_0010#32 = .eorShiftImm 0xE#4 false 0xD#4 0xD#4 0x4#5 0x1#2 0x2#4 ∧
    decode 0b1110_000_0010_0_0111_0001_11001_01_0_0001#32 = .subShiftImm 0xE#4 false 0x7#4 0x1#4 0x19#5 0x1#2 0x1#4 ∧
    decode 0b0000_000_0011_1_0100_0011_10011_01_0_0011#32 = .rsbShiftImm 0x0#4 true 0x4#4 0x3#4 0x13#5 0x1#2 0x3#4 ∧
    decode 0b0000_000_0100_0_0010_0001_01101_10_0_1110#32 = .addShiftImm 0x0#4 false 0x2#4 0x1#4 0xD#5 0x2#2 0xE#4 ∧
    decode 0b0000_000_0101_1_0111_0101_01111_10_0_1010#32 = .adcShiftImm 0x0#4 true 0x7#4 0x5#4 0xF#5 0x2#2 0xA#4 ∧
    decode 0b0000_000_0110_0_0011_1101_01010_10_0_0100#32 = .sbcShiftImm 0x0#4 false 0x3#4 0xD#4 0xA#5 0x2#2 0x4#4 ∧
    decode 0b1110_000_0111_0_1010_1010_10110_10_0_0010#32 = .rscShiftImm 0xE#4 false 0xA#4 0xA#4 0x16#5 0x2#2 0x2#4 ∧
    decode 0b0000_000_1000_1_1110_1001_11000_10_0_1110#32 = .tstShiftImm 0x0#4 0xE#4 0x18#5 0x2#2 0xE#4 ∧
    decode 0b1110_000_1001_1_0011_0001_01101_10_0_0100#32 = .teqShiftImm 0xE#4 0x3#4 0xD#5 0x2#2 0x4#4 ∧
    decode 0b0001_000_1010_1_1100_0010_01010_10_0_0100#32 = .cmpShiftImm 0x1#4 0xC#4 0xA#5 0x2#2 0x4#4 ∧
    decode 0b1011_000_1011_1_1000_1101_10110_01_0_0100#32 = .cmnShiftImm 0xB#4 0x8#4 0x16#5 0x1#2 0x4#4 ∧
    decode 0b1110_000_1100_0_0111_0111_01011_10_0_1001#32 = .orrShiftImm 0xE#4 false 0x7#4 0x7#4 0xB#5 0x2#2 0x9#4 ∧
    decode 0b0001_000_1101_1_1010_0100_00011_01_0_0010#32 = .movShiftImm 0x1#4 true 0x4#4 0x3#5 0x1#2 0x2#4 ∧
    decode 0b0001_000_1110_0_0011_1010_00011_01_0_0011#32 = .bicShiftImm 0x1#4 false 0x3#4 0xA#4 0x3#5 0x1#2 0x3#4 ∧
    decode 0b1011_000_1111_0_0010_0110_11000_01_0_1000#32 = .mvnShiftImm 0xB#4 false 0x6#4 0x18#5 0x1#2 0x8#4 := by decide

/-- spec/30_encoding.md R81. -/
theorem test_decode_dp_shift_reg :
    decode 0b1011_000_0000_1_0011_0011_1110_0_10_1_0010#32 = .andShiftReg 0xB#4 true 0x3#4 0x3#4 0xE#4 0x2#2 0x2#4 ∧
    decode 0b1110_000_0001_1_1000_0101_0110_0_10_1_0100#32 = .eorShiftReg 0xE#4 true 0x8#4 0x5#4 0x6#4 0x2#2 0x4#4 ∧
    decode 0b1110_000_0010_1_1011_0101_1011_0_01_1_1010#32 = .subShiftReg 0xE#4 true 0xB#4 0x5#4 0xB#4 0x1#2 0xA#4 ∧
    decode 0b1011_000_0011_0_0111_1100_0111_0_01_1_1011#32 = .rsbShiftReg 0xB#4 false 0x7#4 0xC#4 0x7#4 0x1#2 0xB#4 ∧
    decode 0b0001_000_0100_1_0110_1011_1110_0_10_1_1011#32 = .addShiftReg 0x1#4 true 0x6#4 0xB#4 0xE#4 0x2#2 0xB#4 ∧
    decode 0b1110_000_0101_0_0111_0110_1010_0_01_1_1011#32 = .adcShiftReg 0xE#4 false 0x7#4 0x6#4 0xA#4 0x1#2 0xB#4 ∧
    decode 0b1110_000_0110_1_0110_0101_1101_0_10_1_0010#32 = .sbcShiftReg 0xE#4 true 0x6#4 0x5#4 0xD#4 0x2#2 0x2#4 ∧
    decode 0b0001_000_0111_1_0010_0101_0101_0_01_1_0100#32 = .rscShiftReg 0x1#4 true 0x2#4 0x5#4 0x5#4 0x1#2 0x4#4 ∧
    decode 0b1110_000_1000_1_1011_0100_0100_0_01_1_1101#32 = .tstShiftReg 0xE#4 0xB#4 0x4#4 0x1#2 0xD#4 ∧
    decode 0b1110_000_1001_1_1000_0110_1001_0_01_1_1010#32 = .teqShiftReg 0xE#4 0x8#4 0x9#4 0x1#2 0xA#4 ∧
    decode 0b1011_000_1010_1_1101_0100_0001_0_10_1_1110#32 = .cmpShiftReg 0xB#4 0xD#4 0x1#4 0x2#2 0xE#4 ∧
    decode 0b1011_000_1011_1_0100_0100_1110_0_01_1_0100#32 = .cmnShiftReg 0xB#4 0x4#4 0xE#4 0x1#2 0x4#4 ∧
    decode 0b1110_000_1100_1_0011_0001_1010_0_01_1_0110#32 = .orrShiftReg 0xE#4 true 0x3#4 0x1#4 0xA#4 0x1#2 0x6#4 ∧
    decode 0b1110_000_1101_0_1110_0010_1110_0_10_1_0110#32 = .movShiftReg 0xE#4 false 0x2#4 0xE#4 0x2#2 0x6#4 ∧
    decode 0b0001_000_1110_1_0111_1000_0110_0_01_1_1101#32 = .bicShiftReg 0x1#4 true 0x7#4 0x8#4 0x6#4 0x1#2 0xD#4 ∧
    decode 0b0001_000_1111_1_1010_0010_0111_0_01_1_1001#32 = .mvnShiftReg 0x1#4 true 0x2#4 0x7#4 0x1#2 0x9#4 := by decide

/-- spec/30_encoding.md R82. -/
theorem test_decode_dp_rot_imm :
    decode 0b1110_001_0000_1_0100_1000_0100_11101111#32 = .andRotImm 0xE#4 true 0x4#4 0x8#4 0x4#4 0xEF#8 ∧
    decode 0b1110_001_0001_1_0101_0111_0101_11011100#32 = .eorRotImm 0xE#4 true 0x5#4 0x7#4 0x5#4 0xDC#8 ∧
    decode 0b0000_001_0010_1_0110_1011_1010_00101111#32 = .subRotImm 0x0#4 true 0x6#4 0xB#4 0xA#4 0x2F#8 ∧
    decode 0b1110_001_0011_1_1110_1110_1100_10101001#32 = .rsbRotImm 0xE#4 true 0xE#4 0xE#4 0xC#4 0xA9#8 ∧
    decode 0b1011_001_0100_0_0011_0111_0011_00101011#32 = .addRotImm 0xB#4 false 0x3#4 0x7#4 0x3#4 0x2B#8 ∧
    decode 0b0000_001_0101_0_0101_1000_0100_11011000#32 = .adcRotImm 0x0#4 false 0x5#4 0x8#4 0x4#4 0xD8#8 ∧
    decode 0b0001_001_0110_0_1010_0010_1000_00011101#32 = .sbcRotImm 0x1#4 false 0xA#4 0x2#4 0x8#4 0x1D#8 ∧
    decode 0b0001_001_0111_0_1000_0010_1000_00101010#32 = .rscRotImm 0x1#4 false 0x8#4 0x2#4 0x8#4 0x2A#8 ∧
    decode 0b1110_001_1000_1_1000_0011_1110_00000101#32 = .tstRotImm 0xE#4 0x8#4 0xE#4 0x5#8 ∧
    decode 0b1011_001_1001_1_1101_1000_0100_00010110#32 = .teqRotImm 0xB#4 0xD#4 0x4#4 0x16#8 ∧
    decode 0b1110_001_1010_1_0101_1000_0001_01011100#32 = .cmpRotImm 0xE#4 0x5#4 0x1#4 0x5C#8 ∧
    decode 0b0000_001_1011_1_1001_0110_1001_11100100#32 = .cmnRotImm 0x0#4 0x9#4 0x9#4 0xE4#8 ∧
    decode 0b0000_001_1100_1_1000_0001_0110_11110011#32 = .orrRotImm 0x0#4 true 0x8#4 0x1#4 0x6#4 0xF3#8 ∧
    decode 0b0001_001_1101_0_1101_1100_1001_01101110#32 = .movRotImm 0x1#4 false 0xC#4 0x9#4 0x6E#8 ∧
    decode 0b0000_001_1110_0_0100_1100_1011_00011011#32 = .bicRotImm 0x0#4 false 0x4#4 0xC#4 0xB#4 0x1B#8 ∧
    decode 0b1110_001_1111_0_1000_1101_0101_00011100#32 = .mvnRotImm 0xE#4 false 0xD#4 0x5#4 0x1C#8 := by decide

/-- spec/30_encoding.md R83, R84, R85, R86. -/
theorem test_decode_misc_and_psr :
    decode 0b0001_00010_1_00_1111_0111_1111_0000_1111#32 = .mrs 0x1#4 true 0x7#4 ∧
    decode 0b1110_00010_1_10_0101_1111_1111_0000_0101#32 = .msr 0xE#4 true 0x5#4 0x5#4 ∧
    decode 0b0001_00010_1_10_1111_1111_1111_0001_1000#32 = .bx 0x1#4 0x8#4 ∧
    decode 0b0000_00110_1_10_0111_1111_0001_10011110#32 = .msrImm 0x0#4 true 0x7#4 0x1#4 0x9E#8 := by decide

/-- spec/30_encoding.md R140, R144. -/
theorem test_decode_misc_undefined_1 :
    decode 0b0000_00010_1_00_1111_1111_1111_0001_1111#32 = .undefMiscHi0Lo1 0x0#4 ∧
    decode 0b1110_00010_1_00_1111_1111_1111_0010_1111#32 = .undefMiscHi0Lo2 0xE#4 ∧
    decode 0b0001_00010_1_00_1111_1111_1111_0011_1111#32 = .undefMiscHi0Lo3 0x1#4 ∧
    decode 0b0001_00010_1_00_1111_1111_1111_0100_1111#32 = .undefMiscHi0Lo4 0x1#4 ∧
    decode 0b1011_00010_1_00_1111_1111_1111_0101_1111#32 = .undefMiscHi0Lo5 0xB#4 ∧
    decode 0b1110_00010_1_00_1111_1111_1111_0110_1111#32 = .undefMiscHi0Lo6 0xE#4 ∧
    decode 0b0000_00010_1_00_1111_1111_1111_0111_1111#32 = .undefMiscHi0Lo7 0x0#4 ∧
    decode 0b1110_00010_1_00_1111_1111_1111_1000_1111#32 = .undefMiscHi0Lo8 0xE#4 ∧
    decode 0b1011_00010_1_00_1111_1111_1111_1010_1111#32 = .undefMiscHi0LoA 0xB#4 ∧
    decode 0b0001_00010_1_00_1111_1111_1111_1100_1111#32 = .undefMiscHi0LoC 0x1#4 ∧
    decode 0b0000_00010_1_00_1111_1111_1111_1110_1111#32 = .undefMiscHi0LoE 0x0#4 ∧
    decode 0b1110_00010_1_10_1111_1111_1111_0010_1111#32 = .undefMiscHi1Lo2 0xE#4 ∧
    decode 0b1011_00010_1_10_1111_1111_1111_0011_1111#32 = .undefMiscHi1Lo3 0xB#4 ∧
    decode 0b0000_00010_1_10_1111_1111_1111_0100_1111#32 = .undefMiscHi1Lo4 0x0#4 ∧
    decode 0b0000_00010_1_10_1111_1111_1111_0101_1111#32 = .undefMiscHi1Lo5 0x0#4 ∧
    decode 0b1110_00010_1_10_1111_1111_1111_0110_1111#32 = .undefMiscHi1Lo6 0xE#4 := by decide

/-- spec/30_encoding.md R140, R144. -/
theorem test_decode_misc_undefined_2 :
    decode 0b1011_00010_1_10_1111_1111_1111_0111_1111#32 = .undefMiscHi1Lo7 0xB#4 ∧
    decode 0b1011_00010_1_10_1111_1111_1111_1000_1111#32 = .undefMiscHi1Lo8 0xB#4 ∧
    decode 0b1110_00010_1_10_1111_1111_1111_1010_1111#32 = .undefMiscHi1LoA 0xE#4 ∧
    decode 0b1110_00010_1_10_1111_1111_1111_1100_1111#32 = .undefMiscHi1LoC 0xE#4 ∧
    decode 0b1110_00010_1_10_1111_1111_1111_1110_1111#32 = .undefMiscHi1LoE 0xE#4 := by decide

/-- spec/30_encoding.md R87. -/
theorem test_decode_transfer_imm :
    decode 0b0001_010_1_0_0_0_1_0111_1000_000000011011#32 = .ldrImmP1 0x1#4 true false false false true 0x7#4 0x8#4 0x1B#12 ∧
    decode 0b1110_010_0_0_0_0_1_0010_1000_001001100001#32 = .ldrImmP0 0xE#4 false false false false true 0x2#4 0x8#4 0x261#12 ∧
    decode 0b1110_010_0_0_0_1_1_0111_1110_111111001110#32 = .ldrtImm 0xE#4 false false false true true 0x7#4 0xE#4 0xFCE#12 ∧
    decode 0b1110_010_1_1_0_1_0_0001_0110_001001111010#32 = .strImmP1 0xE#4 true true false true false 0x1#4 0x6#4 0x27A#12 ∧
    decode 0b0000_010_0_1_0_0_0_1001_0100_000001100110#32 = .strImmP0 0x0#4 false true false false false 0x9#4 0x4#4 0x66#12 ∧
    decode 0b0001_010_0_1_0_1_0_0011_0110_111110101010#32 = .strtImm 0x1#4 false true false true false 0x3#4 0x6#4 0xFAA#12 ∧
    decode 0b1011_010_1_1_1_1_1_1110_1110_001111001010#32 = .ldrbImmP1 0xB#4 true true true true true 0xE#4 0xE#4 0x3CA#12 ∧
    decode 0b0000_010_0_0_1_0_1_1001_1110_001001110010#32 = .ldrbImmP0 0x0#4 false false true false true 0x9#4 0xE#4 0x272#12 ∧
    decode 0b0000_010_0_1_1_1_1_0110_0110_001001100011#32 = .ldrbtImm 0x0#4 false true true true true 0x6#4 0x6#4 0x263#12 ∧
    decode 0b1110_010_1_1_1_1_0_0100_1000_001110011011#32 = .strbImmP1 0xE#4 true true true true false 0x4#4 0x8#4 0x39B#12 ∧
    decode 0b1110_010_0_1_1_0_0_1100_0101_000000011101#32 = .strbImmP0 0xE#4 false true true false false 0xC#4 0x5#4 0x1D#12 ∧
    decode 0b0001_010_0_1_1_1_0_0100_1101_101100000001#32 = .strbtImm 0x1#4 false true true true false 0x4#4 0xD#4 0xB01#12 := by decide

/-- spec/30_encoding.md R88. -/
theorem test_decode_transfer_reg :
    decode 0b0000_011_1_0_0_1_1_1010_1010_11001_01_0_1001#32 = .ldrRegP1 0x0#4 true false false true true 0xA#4 0xA#4 0x19#5 0x1#2 0x9#4 ∧
    decode 0b0000_011_0_0_0_0_1_1100_1100_00100_10_0_1101#32 = .ldrRegP0 0x0#4 false false false false true 0xC#4 0xC#4 0x4#5 0x2#2 0xD#4 ∧
    decode 0b1110_011_0_1_0_1_1_0011_0001_10010_01_0_0111#32 = .ldrtReg 0xE#4 false true false true true 0x3#4 0x1#4 0x12#5 0x1#2 0x7#4 ∧
    decode 0b0001_011_1_1_0_0_0_1011_1101_00001_01_0_0010#32 = .strRegP1 0x1#4 true true false false false 0xB#4 0xD#4 0x1#5 0x1#2 0x2#4 ∧
    decode 0b0001_011_0_1_0_0_0_0100_1001_00011_01_0_0101#32 = .strRegP0 0x1#4 false true false false false 0x4#4 0x9#4 0x3#5 0x1#2 0x5#4 ∧
    decode 0b0000_011_0_1_0_1_0_1001_1000_10000_01_0_1001#32 = .strtReg 0x0#4 false true false true false 0x9#4 0x8#4 0x10#5 0x1#2 0x9#4 ∧
    decode 0b1110_011_1_0_1_0_1_0010_0110_01110_10_0_1110#32 = .ldrbRegP1 0xE#4 true false true false true 0x2#4 0x6#4 0xE#5 0x2#2 0xE#4 ∧
    decode 0b1110_011_0_0_1_0_1_0111_0010_01011_10_0_0010#32 = .ldrbRegP0 0xE#4 false false true false true 0x7#4 0x2#4 0xB#5 0x2#2 0x2#4 ∧
    decode 0b1110_011_0_1_1_1_1_1000_0110_00001_01_0_1100#32 = .ldrbtReg 0xE#4 false true true true true 0x8#4 0x6#4 0x1#5 0x1#2 0xC#4 ∧
    decode 0b0000_011_1_0_1_1_0_1000_1011_01000_01_0_0010#32 = .strbRegP1 0x0#4 true false true true false 0x8#4 0xB#4 0x8#5 0x1#2 0x2#4 ∧
    decode 0b1110_011_0_1_1_0_0_1100_1110_11011_10_0_0100#32 = .strbRegP0 0xE#4 false true true false false 0xC#4 0xE#4 0x1B#5 0x2#2 0x4#4 ∧
    decode 0b0001_011_0_1_1_1_0_0010_1100_11101_01_0_0011#32 = .strbtReg 0x1#4 false true true true false 0x2#4 0xC#4 0x1D#5 0x1#2 0x3#4 := by decide

/-- spec/30_encoding.md R89, R201 to R203. -/
theorem test_decode_branch_undefined_unresolved :
    decode 0b1110_00110_1_00_1111_1111_1111_11111111#32 = .undefMajor1Band 0xE#4 ∧
    decode 0b1011_011_10101_1010_0101_1010_111_1_0110#32 = .undefMajor3Bit4 0xB#4 ∧
    decode 0b0001_101_0_001010111000010110010000#32 = .b 0x1#4 false 0x2B8590#24 ∧
    decode 0b1110_101_1_010000000101010101101101#32 = .bl 0xE#4 true 0x40556D#24 ∧
    decode 0b1011_100_1111111111111111111111111#32 = .undefMajor4 0xB#4 ∧
    decode 0b0000_110_1111111111111111111111111#32 = .undefMajor6 0x0#4 ∧
    decode 0b0000_111_1111111111111111111111111#32 = .undefMajor7 0x0#4 ∧
    decode 0b1110_000_10110_1010_0101_1010_1_11_1_1111#32 = .unresolvedMultiplyExtendedLoadStore 0xE#4 := by decide

/-! ## Outputs: spec/95_test_vectors.md through `step` -/

/-- One step from reset with the word presented ends with the word at the input, this value at the output and nothing left to
present; or, for an unresolved value, with the refusal that names its family. -/
def shows (w : Word) (r : DecodeResult) : Bool :=
  match step (State.reset.withFetchWord 32 w.toNat), r with
  | .next s, .ok d => s == ⟨w, .ok d, []⟩
  | .refused stop, .unresolved family => stop == .unresolved family
  | _, _ => false

/-- spec/95_test_vectors.md section 1. -/
theorem test_output_1 :
    [ (0xE3A00001#32, DecodeResult.ok ⟨.always, .mov false ⟨0⟩ (.immediate 0x1#8 0#4)⟩),
      (0xEAFFFFFE#32, .ok ⟨.always, .b false ⟨0xFE#8, 0xFF#8, 0xFF#8⟩⟩),
      (0xE10F0000#32, .ok ⟨.always, .mrs ⟨0⟩ false⟩),
      (0x00000000#32, .ok ⟨.eq, .and false ⟨0⟩ ⟨0⟩ (.shift ⟨0⟩ .lsl (.imm 0#5))⟩) ].all (fun x => shows x.1 x.2) = true := by decide

/-- spec/95_test_vectors.md section 2.1. -/
theorem test_output_2_1 :
    [ (0x01A00000#32, DecodeResult.ok ⟨.eq, .mov false ⟨0⟩ (.shift ⟨0⟩ .lsl (.imm 0#5))⟩),
      (0x11A00000#32, .ok ⟨.ne, .mov false ⟨0⟩ (.shift ⟨0⟩ .lsl (.imm 0#5))⟩),
      (0x21A00000#32, .ok ⟨.cs, .mov false ⟨0⟩ (.shift ⟨0⟩ .lsl (.imm 0#5))⟩),
      (0x31A00000#32, .ok ⟨.cc, .mov false ⟨0⟩ (.shift ⟨0⟩ .lsl (.imm 0#5))⟩),
      (0x41A00000#32, .ok ⟨.mi, .mov false ⟨0⟩ (.shift ⟨0⟩ .lsl (.imm 0#5))⟩),
      (0x51A00000#32, .ok ⟨.pl, .mov false ⟨0⟩ (.shift ⟨0⟩ .lsl (.imm 0#5))⟩),
      (0x61A00000#32, .ok ⟨.vs, .mov false ⟨0⟩ (.shift ⟨0⟩ .lsl (.imm 0#5))⟩),
      (0x71A00000#32, .ok ⟨.vc, .mov false ⟨0⟩ (.shift ⟨0⟩ .lsl (.imm 0#5))⟩),
      (0x81A00000#32, .ok ⟨.hi, .mov false ⟨0⟩ (.shift ⟨0⟩ .lsl (.imm 0#5))⟩),
      (0x91A00000#32, .ok ⟨.ls, .mov false ⟨0⟩ (.shift ⟨0⟩ .lsl (.imm 0#5))⟩),
      (0xA1A00000#32, .ok ⟨.ge, .mov false ⟨0⟩ (.shift ⟨0⟩ .lsl (.imm 0#5))⟩),
      (0xB1A00000#32, .ok ⟨.lt, .mov false ⟨0⟩ (.shift ⟨0⟩ .lsl (.imm 0#5))⟩),
      (0xC1A00000#32, .ok ⟨.gt, .mov false ⟨0⟩ (.shift ⟨0⟩ .lsl (.imm 0#5))⟩),
      (0xD1A00000#32, .ok ⟨.le, .mov false ⟨0⟩ (.shift ⟨0⟩ .lsl (.imm 0#5))⟩),
      (0xE1A00000#32, .ok ⟨.always, .mov false ⟨0⟩ (.shift ⟨0⟩ .lsl (.imm 0#5))⟩),
      (0xF1A00000#32, .ok ⟨.reserved, .mov false ⟨0⟩ (.shift ⟨0⟩ .lsl (.imm 0#5))⟩) ].all (fun x => shows x.1 x.2) = true := by decide

/-- spec/95_test_vectors.md section 2.2. -/
theorem test_output_2_2 :
    [ (0xE0000000#32, DecodeResult.ok ⟨.always, .and false ⟨0⟩ ⟨0⟩ (.shift ⟨0⟩ .lsl (.imm 0#5))⟩),
      (0xE2000000#32, .ok ⟨.always, .and false ⟨0⟩ ⟨0⟩ (.immediate 0x0#8 0#4)⟩),
      (0xE4000000#32, .ok ⟨.always, .str ⟨0⟩ ⟨⟨0⟩, true, .postIndexed, .immediate 0#12⟩⟩),
      (0xE6000000#32, .ok ⟨.always, .str ⟨0⟩ ⟨⟨0⟩, true, .postIndexed, .register ⟨0⟩ .lsl 0#5⟩⟩),
      (0xE6000010#32, .ok ⟨.always, .undefined⟩),
      (0xE8000000#32, .ok ⟨.always, .undefined⟩),
      (0xEA000000#32, .ok ⟨.always, .b false ⟨0x00#8, 0x00#8, 0x00#8⟩⟩),
      (0xEC000000#32, .ok ⟨.always, .undefined⟩),
      (0xEE000000#32, .ok ⟨.always, .undefined⟩),
      (0xEF000000#32, .ok ⟨.always, .undefined⟩) ].all (fun x => shows x.1 x.2) = true := by decide

/-- spec/95_test_vectors.md section 2.3. -/
theorem test_output_2_3 :
    [ (0xE0000090#32, DecodeResult.unresolved .multiplyExtendedLoadStore),
      (0xE12FFF10#32, DecodeResult.ok ⟨.always, .bx ⟨0⟩⟩),
      (0xE0000010#32, .ok ⟨.always, .and false ⟨0⟩ ⟨0⟩ (.shift ⟨0⟩ .lsl (.register ⟨0⟩))⟩),
      (0xE13FFF10#32, .ok ⟨.always, .teq ⟨15⟩ (.shift ⟨0⟩ .lsl (.register ⟨15⟩))⟩),
      (0xE11F0000#32, .ok ⟨.always, .tst ⟨15⟩ (.shift ⟨0⟩ .lsl (.imm 0#5))⟩),
      (0xE10000F0#32, .unresolved .multiplyExtendedLoadStore),
      (0xE1000070#32, .ok ⟨.always, .undefined⟩),
      (0xE0100080#32, .ok ⟨.always, .and true ⟨0⟩ ⟨0⟩ (.shift ⟨0⟩ .lsl (.imm 1#5))⟩) ].all (fun x => shows x.1 x.2) = true := by decide

/-- spec/95_test_vectors.md section 2.4. -/
theorem test_output_2_4 :
    [ (0xE320F000#32, DecodeResult.ok ⟨.always, .msrImm false ⟨false, false, false, false⟩ (.immediate 0x0#8 0#4)⟩),
      (0xE3000000#32, .ok ⟨.always, .undefined⟩),
      (0xE3400000#32, .ok ⟨.always, .undefined⟩),
      (0xE3100000#32, .ok ⟨.always, .tst ⟨0⟩ (.immediate 0x0#8 0#4)⟩),
      (0xE3500005#32, .ok ⟨.always, .cmp ⟨0⟩ (.immediate 0x5#8 0#4)⟩),
      (0xE2200001#32, .ok ⟨.always, .eor false ⟨0⟩ ⟨0⟩ (.immediate 0x1#8 0#4)⟩),
      (0xE3E00000#32, .ok ⟨.always, .mvn false ⟨0⟩ (.immediate 0x0#8 0#4)⟩) ].all (fun x => shows x.1 x.2) = true := by decide

/-- spec/95_test_vectors.md section 2.5. -/
theorem test_output_2_5_1 :
    [ (0xE00212C3#32, DecodeResult.ok ⟨.always, .and false ⟨1⟩ ⟨2⟩ (.shift ⟨3⟩ .asr (.imm 5#5))⟩),
      (0xE0021473#32, .ok ⟨.always, .and false ⟨1⟩ ⟨2⟩ (.shift ⟨3⟩ .ror (.register ⟨4⟩))⟩),
      (0xE2021A3F#32, .ok ⟨.always, .and false ⟨1⟩ ⟨2⟩ (.immediate 0x3F#8 10#4)⟩),
      (0xE02212C3#32, .ok ⟨.always, .eor false ⟨1⟩ ⟨2⟩ (.shift ⟨3⟩ .asr (.imm 5#5))⟩),
      (0xE0221473#32, .ok ⟨.always, .eor false ⟨1⟩ ⟨2⟩ (.shift ⟨3⟩ .ror (.register ⟨4⟩))⟩),
      (0xE2221A3F#32, .ok ⟨.always, .eor false ⟨1⟩ ⟨2⟩ (.immediate 0x3F#8 10#4)⟩),
      (0xE04212C3#32, .ok ⟨.always, .sub false ⟨1⟩ ⟨2⟩ (.shift ⟨3⟩ .asr (.imm 5#5))⟩),
      (0xE0421473#32, .ok ⟨.always, .sub false ⟨1⟩ ⟨2⟩ (.shift ⟨3⟩ .ror (.register ⟨4⟩))⟩),
      (0xE2421A3F#32, .ok ⟨.always, .sub false ⟨1⟩ ⟨2⟩ (.immediate 0x3F#8 10#4)⟩),
      (0xE06212C3#32, .ok ⟨.always, .rsb false ⟨1⟩ ⟨2⟩ (.shift ⟨3⟩ .asr (.imm 5#5))⟩),
      (0xE0621473#32, .ok ⟨.always, .rsb false ⟨1⟩ ⟨2⟩ (.shift ⟨3⟩ .ror (.register ⟨4⟩))⟩),
      (0xE2621A3F#32, .ok ⟨.always, .rsb false ⟨1⟩ ⟨2⟩ (.immediate 0x3F#8 10#4)⟩),
      (0xE08212C3#32, .ok ⟨.always, .add false ⟨1⟩ ⟨2⟩ (.shift ⟨3⟩ .asr (.imm 5#5))⟩),
      (0xE0821473#32, .ok ⟨.always, .add false ⟨1⟩ ⟨2⟩ (.shift ⟨3⟩ .ror (.register ⟨4⟩))⟩),
      (0xE2821A3F#32, .ok ⟨.always, .add false ⟨1⟩ ⟨2⟩ (.immediate 0x3F#8 10#4)⟩),
      (0xE0A212C3#32, .ok ⟨.always, .adc false ⟨1⟩ ⟨2⟩ (.shift ⟨3⟩ .asr (.imm 5#5))⟩) ].all (fun x => shows x.1 x.2) = true := by decide

/-- spec/95_test_vectors.md section 2.5. -/
theorem test_output_2_5_2 :
    [ (0xE0A21473#32, DecodeResult.ok ⟨.always, .adc false ⟨1⟩ ⟨2⟩ (.shift ⟨3⟩ .ror (.register ⟨4⟩))⟩),
      (0xE2A21A3F#32, .ok ⟨.always, .adc false ⟨1⟩ ⟨2⟩ (.immediate 0x3F#8 10#4)⟩),
      (0xE0C212C3#32, .ok ⟨.always, .sbc false ⟨1⟩ ⟨2⟩ (.shift ⟨3⟩ .asr (.imm 5#5))⟩),
      (0xE0C21473#32, .ok ⟨.always, .sbc false ⟨1⟩ ⟨2⟩ (.shift ⟨3⟩ .ror (.register ⟨4⟩))⟩),
      (0xE2C21A3F#32, .ok ⟨.always, .sbc false ⟨1⟩ ⟨2⟩ (.immediate 0x3F#8 10#4)⟩),
      (0xE0E212C3#32, .ok ⟨.always, .rsc false ⟨1⟩ ⟨2⟩ (.shift ⟨3⟩ .asr (.imm 5#5))⟩),
      (0xE0E21473#32, .ok ⟨.always, .rsc false ⟨1⟩ ⟨2⟩ (.shift ⟨3⟩ .ror (.register ⟨4⟩))⟩),
      (0xE2E21A3F#32, .ok ⟨.always, .rsc false ⟨1⟩ ⟨2⟩ (.immediate 0x3F#8 10#4)⟩),
      (0xE11212C3#32, .ok ⟨.always, .tst ⟨2⟩ (.shift ⟨3⟩ .asr (.imm 5#5))⟩),
      (0xE1121473#32, .ok ⟨.always, .tst ⟨2⟩ (.shift ⟨3⟩ .ror (.register ⟨4⟩))⟩),
      (0xE3121A3F#32, .ok ⟨.always, .tst ⟨2⟩ (.immediate 0x3F#8 10#4)⟩),
      (0xE13212C3#32, .ok ⟨.always, .teq ⟨2⟩ (.shift ⟨3⟩ .asr (.imm 5#5))⟩),
      (0xE1321473#32, .ok ⟨.always, .teq ⟨2⟩ (.shift ⟨3⟩ .ror (.register ⟨4⟩))⟩),
      (0xE3321A3F#32, .ok ⟨.always, .teq ⟨2⟩ (.immediate 0x3F#8 10#4)⟩),
      (0xE15212C3#32, .ok ⟨.always, .cmp ⟨2⟩ (.shift ⟨3⟩ .asr (.imm 5#5))⟩),
      (0xE1521473#32, .ok ⟨.always, .cmp ⟨2⟩ (.shift ⟨3⟩ .ror (.register ⟨4⟩))⟩) ].all (fun x => shows x.1 x.2) = true := by decide

/-- spec/95_test_vectors.md section 2.5. -/
theorem test_output_2_5_3 :
    [ (0xE3521A3F#32, DecodeResult.ok ⟨.always, .cmp ⟨2⟩ (.immediate 0x3F#8 10#4)⟩),
      (0xE17212C3#32, .ok ⟨.always, .cmn ⟨2⟩ (.shift ⟨3⟩ .asr (.imm 5#5))⟩),
      (0xE1721473#32, .ok ⟨.always, .cmn ⟨2⟩ (.shift ⟨3⟩ .ror (.register ⟨4⟩))⟩),
      (0xE3721A3F#32, .ok ⟨.always, .cmn ⟨2⟩ (.immediate 0x3F#8 10#4)⟩),
      (0xE18212C3#32, .ok ⟨.always, .orr false ⟨1⟩ ⟨2⟩ (.shift ⟨3⟩ .asr (.imm 5#5))⟩),
      (0xE1821473#32, .ok ⟨.always, .orr false ⟨1⟩ ⟨2⟩ (.shift ⟨3⟩ .ror (.register ⟨4⟩))⟩),
      (0xE3821A3F#32, .ok ⟨.always, .orr false ⟨1⟩ ⟨2⟩ (.immediate 0x3F#8 10#4)⟩),
      (0xE1A212C3#32, .ok ⟨.always, .mov false ⟨1⟩ (.shift ⟨3⟩ .asr (.imm 5#5))⟩),
      (0xE1A21473#32, .ok ⟨.always, .mov false ⟨1⟩ (.shift ⟨3⟩ .ror (.register ⟨4⟩))⟩),
      (0xE3A21A3F#32, .ok ⟨.always, .mov false ⟨1⟩ (.immediate 0x3F#8 10#4)⟩),
      (0xE1C212C3#32, .ok ⟨.always, .bic false ⟨1⟩ ⟨2⟩ (.shift ⟨3⟩ .asr (.imm 5#5))⟩),
      (0xE1C21473#32, .ok ⟨.always, .bic false ⟨1⟩ ⟨2⟩ (.shift ⟨3⟩ .ror (.register ⟨4⟩))⟩),
      (0xE3C21A3F#32, .ok ⟨.always, .bic false ⟨1⟩ ⟨2⟩ (.immediate 0x3F#8 10#4)⟩),
      (0xE1E212C3#32, .ok ⟨.always, .mvn false ⟨1⟩ (.shift ⟨3⟩ .asr (.imm 5#5))⟩),
      (0xE1E21473#32, .ok ⟨.always, .mvn false ⟨1⟩ (.shift ⟨3⟩ .ror (.register ⟨4⟩))⟩),
      (0xE3E21A3F#32, .ok ⟨.always, .mvn false ⟨1⟩ (.immediate 0x3F#8 10#4)⟩) ].all (fun x => shows x.1 x.2) = true := by decide

/-- spec/95_test_vectors.md section 2.6. -/
theorem test_output_2_6 :
    [ (0xE0911000#32, DecodeResult.ok ⟨.always, .add true ⟨1⟩ ⟨1⟩ (.shift ⟨0⟩ .lsl (.imm 0#5))⟩),
      (0xE1A01020#32, .ok ⟨.always, .mov false ⟨1⟩ (.shift ⟨0⟩ .lsr (.imm 0#5))⟩),
      (0xE1A01040#32, .ok ⟨.always, .mov false ⟨1⟩ (.shift ⟨0⟩ .asr (.imm 0#5))⟩),
      (0xE1A01060#32, .ok ⟨.always, .mov false ⟨1⟩ (.shift ⟨0⟩ .ror (.imm 0#5))⟩),
      (0xE1A01F8F#32, .ok ⟨.always, .mov false ⟨1⟩ (.shift ⟨15⟩ .lsl (.imm 31#5))⟩),
      (0xE1A0FF1F#32, .ok ⟨.always, .mov false ⟨15⟩ (.shift ⟨15⟩ .lsl (.register ⟨15⟩))⟩),
      (0xE2811FFF#32, .ok ⟨.always, .add false ⟨1⟩ ⟨1⟩ (.immediate 0xFF#8 15#4)⟩),
      (0xE28FF000#32, .ok ⟨.always, .add false ⟨15⟩ ⟨15⟩ (.immediate 0x0#8 0#4)⟩),
      (0xE0811001#32, .ok ⟨.always, .add false ⟨1⟩ ⟨1⟩ (.shift ⟨1⟩ .lsl (.imm 0#5))⟩),
      (0xE1F0F000#32, .ok ⟨.always, .mvn true ⟨15⟩ (.shift ⟨0⟩ .lsl (.imm 0#5))⟩) ].all (fun x => shows x.1 x.2) = true := by decide

/-- spec/95_test_vectors.md section 2.7. -/
theorem test_output_2_7 :
    [ (0xE14F1000#32, DecodeResult.ok ⟨.always, .mrs ⟨1⟩ true⟩),
      (0xE1000000#32, .ok ⟨.always, .mrs ⟨0⟩ false⟩),
      (0xE10FFF0F#32, .ok ⟨.always, .mrs ⟨15⟩ false⟩),
      (0xE129F001#32, .ok ⟨.always, .msr ⟨1⟩ false ⟨true, false, false, true⟩⟩),
      (0xE168F002#32, .ok ⟨.always, .msr ⟨2⟩ true ⟨false, false, false, true⟩⟩),
      (0xE1200000#32, .ok ⟨.always, .msr ⟨0⟩ false ⟨false, false, false, false⟩⟩),
      (0xE12FF00F#32, .ok ⟨.always, .msr ⟨15⟩ false ⟨true, true, true, true⟩⟩),
      (0xE12FFF1E#32, .ok ⟨.always, .bx ⟨14⟩⟩),
      (0xE16FFF10#32, .ok ⟨.always, .bx ⟨0⟩⟩),
      (0xE1200010#32, .ok ⟨.always, .bx ⟨0⟩⟩),
      (0xE12FFF30#32, .ok ⟨.always, .undefined⟩),
      (0xE1200050#32, .ok ⟨.always, .undefined⟩),
      (0xE1200070#32, .ok ⟨.always, .undefined⟩),
      (0xE1000010#32, .ok ⟨.always, .undefined⟩),
      (0xE1000080#32, .ok ⟨.always, .undefined⟩),
      (0xE1200040#32, .ok ⟨.always, .undefined⟩) ].all (fun x => shows x.1 x.2) = true := by decide

/-- spec/95_test_vectors.md section 2.8. -/
theorem test_output_2_8 :
    [ (0xE328F20F#32, DecodeResult.ok ⟨.always, .msrImm false ⟨false, false, false, true⟩ (.immediate 0xF#8 2#4)⟩),
      (0xE321F0D3#32, .ok ⟨.always, .msrImm false ⟨true, false, false, false⟩ (.immediate 0xD3#8 0#4)⟩),
      (0xE36FF0FF#32, .ok ⟨.always, .msrImm true ⟨true, true, true, true⟩ (.immediate 0xFF#8 0#4)⟩),
      (0xE320FFFF#32, .ok ⟨.always, .msrImm false ⟨false, false, false, false⟩ (.immediate 0xFF#8 15#4)⟩) ].all (fun x => shows x.1 x.2) = true := by decide

/-- spec/95_test_vectors.md section 2.9. -/
theorem test_output_2_9_1 :
    [ (0xE4812004#32, DecodeResult.ok ⟨.always, .str ⟨2⟩ ⟨⟨1⟩, false, .postIndexed, .immediate 4#12⟩⟩),
      (0xE4912004#32, .ok ⟨.always, .ldr ⟨2⟩ ⟨⟨1⟩, false, .postIndexed, .immediate 4#12⟩⟩),
      (0xE4C12004#32, .ok ⟨.always, .strb ⟨2⟩ ⟨⟨1⟩, false, .postIndexed, .immediate 4#12⟩⟩),
      (0xE4D12004#32, .ok ⟨.always, .ldrb ⟨2⟩ ⟨⟨1⟩, false, .postIndexed, .immediate 4#12⟩⟩),
      (0xE4A12004#32, .ok ⟨.always, .strt ⟨2⟩ ⟨⟨1⟩, false, .postIndexed, .immediate 4#12⟩⟩),
      (0xE4B12004#32, .ok ⟨.always, .ldrt ⟨2⟩ ⟨⟨1⟩, false, .postIndexed, .immediate 4#12⟩⟩),
      (0xE4E12004#32, .ok ⟨.always, .strbt ⟨2⟩ ⟨⟨1⟩, false, .postIndexed, .immediate 4#12⟩⟩),
      (0xE4F12004#32, .ok ⟨.always, .ldrbt ⟨2⟩ ⟨⟨1⟩, false, .postIndexed, .immediate 4#12⟩⟩),
      (0xE5812004#32, .ok ⟨.always, .str ⟨2⟩ ⟨⟨1⟩, false, .offset, .immediate 4#12⟩⟩),
      (0xE5912004#32, .ok ⟨.always, .ldr ⟨2⟩ ⟨⟨1⟩, false, .offset, .immediate 4#12⟩⟩),
      (0xE5C12004#32, .ok ⟨.always, .strb ⟨2⟩ ⟨⟨1⟩, false, .offset, .immediate 4#12⟩⟩),
      (0xE5D12004#32, .ok ⟨.always, .ldrb ⟨2⟩ ⟨⟨1⟩, false, .offset, .immediate 4#12⟩⟩),
      (0xE5A12004#32, .ok ⟨.always, .str ⟨2⟩ ⟨⟨1⟩, false, .preIndexed, .immediate 4#12⟩⟩),
      (0xE5B12004#32, .ok ⟨.always, .ldr ⟨2⟩ ⟨⟨1⟩, false, .preIndexed, .immediate 4#12⟩⟩),
      (0xE5E12004#32, .ok ⟨.always, .strb ⟨2⟩ ⟨⟨1⟩, false, .preIndexed, .immediate 4#12⟩⟩),
      (0xE5F12004#32, .ok ⟨.always, .ldrb ⟨2⟩ ⟨⟨1⟩, false, .preIndexed, .immediate 4#12⟩⟩) ].all (fun x => shows x.1 x.2) = true := by decide

/-- spec/95_test_vectors.md section 2.9. -/
theorem test_output_2_9_2 :
    [ (0xE5110FFF#32, DecodeResult.ok ⟨.always, .ldr ⟨0⟩ ⟨⟨1⟩, true, .offset, .immediate 4095#12⟩⟩),
      (0xE51F0008#32, .ok ⟨.always, .ldr ⟨0⟩ ⟨⟨15⟩, true, .offset, .immediate 8#12⟩⟩),
      (0xE59FF000#32, .ok ⟨.always, .ldr ⟨15⟩ ⟨⟨15⟩, false, .offset, .immediate 0#12⟩⟩),
      (0xE5B00000#32, .ok ⟨.always, .ldr ⟨0⟩ ⟨⟨0⟩, false, .preIndexed, .immediate 0#12⟩⟩) ].all (fun x => shows x.1 x.2) = true := by decide

/-- spec/95_test_vectors.md section 2.10. -/
theorem test_output_2_10 :
    [ (0xE7910102#32, DecodeResult.ok ⟨.always, .ldr ⟨0⟩ ⟨⟨1⟩, false, .offset, .register ⟨2⟩ .lsl 2#5⟩⟩),
      (0xE7910122#32, .ok ⟨.always, .ldr ⟨0⟩ ⟨⟨1⟩, false, .offset, .register ⟨2⟩ .lsr 2#5⟩⟩),
      (0xE7910142#32, .ok ⟨.always, .ldr ⟨0⟩ ⟨⟨1⟩, false, .offset, .register ⟨2⟩ .asr 2#5⟩⟩),
      (0xE7910162#32, .ok ⟨.always, .ldr ⟨0⟩ ⟨⟨1⟩, false, .offset, .register ⟨2⟩ .ror 2#5⟩⟩),
      (0xE7910062#32, .ok ⟨.always, .ldr ⟨0⟩ ⟨⟨1⟩, false, .offset, .register ⟨2⟩ .ror 0#5⟩⟩),
      (0xE7B10F82#32, .ok ⟨.always, .ldr ⟨0⟩ ⟨⟨1⟩, false, .preIndexed, .register ⟨2⟩ .lsl 31#5⟩⟩),
      (0xE6110102#32, .ok ⟨.always, .ldr ⟨0⟩ ⟨⟨1⟩, true, .postIndexed, .register ⟨2⟩ .lsl 2#5⟩⟩),
      (0xE6B10102#32, .ok ⟨.always, .ldrt ⟨0⟩ ⟨⟨1⟩, false, .postIndexed, .register ⟨2⟩ .lsl 2#5⟩⟩),
      (0xE6F10102#32, .ok ⟨.always, .ldrbt ⟨0⟩ ⟨⟨1⟩, false, .postIndexed, .register ⟨2⟩ .lsl 2#5⟩⟩),
      (0xE7910112#32, .ok ⟨.always, .undefined⟩),
      (0xE7F000F0#32, .ok ⟨.always, .undefined⟩) ].all (fun x => shows x.1 x.2) = true := by decide

/-- spec/95_test_vectors.md section 2.11. -/
theorem test_output_2_11 :
    [ (0xEAFFFFFF#32, DecodeResult.ok ⟨.always, .b false ⟨0xFF#8, 0xFF#8, 0xFF#8⟩⟩),
      (0xEA800000#32, .ok ⟨.always, .b false ⟨0x00#8, 0x00#8, 0x80#8⟩⟩),
      (0xEA7FFFFF#32, .ok ⟨.always, .b false ⟨0xFF#8, 0xFF#8, 0x7F#8⟩⟩),
      (0xEB000010#32, .ok ⟨.always, .b true ⟨0x10#8, 0x00#8, 0x00#8⟩⟩),
      (0x0B123456#32, .ok ⟨.eq, .b true ⟨0x56#8, 0x34#8, 0x12#8⟩⟩),
      (0xFA000000#32, .ok ⟨.reserved, .b false ⟨0x00#8, 0x00#8, 0x00#8⟩⟩) ].all (fun x => shows x.1 x.2) = true := by decide

/-- spec/95_test_vectors.md section 2.12. -/
theorem test_output_2_12 :
    [ (0xE0200091#32, DecodeResult.unresolved .multiplyExtendedLoadStore),
      (0xE0800091#32, .unresolved .multiplyExtendedLoadStore),
      (0xE1B000B0#32, .unresolved .multiplyExtendedLoadStore),
      (0xE1D000D0#32, .unresolved .multiplyExtendedLoadStore),
      (0xE1D000F0#32, .unresolved .multiplyExtendedLoadStore),
      (0x01000090#32, .unresolved .multiplyExtendedLoadStore),
      (0xF00000F0#32, .unresolved .multiplyExtendedLoadStore),
      (0xE8BD8000#32, DecodeResult.ok ⟨.always, .undefined⟩),
      (0xE92D4000#32, .ok ⟨.always, .undefined⟩),
      (0xEE010F10#32, .ok ⟨.always, .undefined⟩),
      (0xED900000#32, .ok ⟨.always, .undefined⟩) ].all (fun x => shows x.1 x.2) = true := by decide

/-- spec/40_data_processing.md R120: the three forms of one opcode. -/
theorem test_three_forms_of_one_opcode :
    shows 0xE0821003#32 (.ok ⟨.always, .add false ⟨1⟩ ⟨2⟩ (.shift ⟨3⟩ .lsl (.imm 0#5))⟩) = true ∧
    shows 0xE0821433#32 (.ok ⟨.always, .add false ⟨1⟩ ⟨2⟩ (.shift ⟨3⟩ .lsr (.register ⟨4⟩))⟩) = true := by decide

/-- spec/95_test_vectors.md section 2.13. -/
theorem test_sext24 :
    [ (0x00000000#32, (0 : Int), 0x00000000#32), (0x00000001#32, 1, 0x00000001#32), (0x007FFFFF#32, 8388607, 0x007FFFFF#32),
      (0x00800000#32, -8388608, 0xFF800000#32), (0x00FFFFFE#32, -2, 0xFFFFFFFE#32), (0x00FFFFFF#32, -1, 0xFFFFFFFF#32),
      (0x12FFFFFE#32, -2, 0xFFFFFFFE#32) ].all (fun x => sext24Int x.1 == x.2.1 && sext24 x.1 == x.2.2) = true := by decide

/-- spec/20_memory.md R42: the bytes of 0x123456 and the number they denote. -/
theorem test_offset_bytes_value :
    offsetBytes 0x123456#24 = ⟨0x56#8, 0x34#8, 0x12#8⟩ ∧ (offsetBytes 0x123456#24).value = 0x123456 := by decide

/-! ## The decoder on numbers, and the feed -/

/-- R60: one length, 32 bits; a shorter row has its upper bits zero. -/
theorem test_decodeTableWord :
    decodeTableWord 32 0xEA000000 = some (.b 0xE#4 false 0x000000#24) ∧
    decodeTableWord 16 0x1234 = some (.andShiftReg 0x0#4 false 0x0#4 0x1#4 0x2#4 0b01#2 0x4#4) ∧
    decodeNumber 64 0 = .error .longerThanOneWord ∧ decodeNumber 16 0x10000 = .error .bitAboveLength := by
  refine ⟨by decide, by decide, rfl, rfl⟩

/-- A word put before a feed is the one the next step runs, and the rest waits. -/
theorem test_withFetchWord_runs_first :
    step (State.withFetchWord ⟨0x11111111#32, .unresolved .multiplyExtendedLoadStore, [0xEA000000#32]⟩ 32 0xE10F0000) =
      .next ⟨0xE10F0000#32, .ok ⟨.always, .mrs ⟨0⟩ false⟩, [0xEA000000#32]⟩ := rfl

/-- From reset with nothing to present, a step evaluates the word that stands at the input again. -/
theorem test_reset_without_a_feed : step State.reset = .next State.reset := rfl

/-! ## Witnesses: for each obligation that has hypotheses, a state and operands that meet them -/

/-- A state whose next word is the given one. -/
def showing (w : Word) : State := ⟨0x00000000#32, .unresolved .multiplyExtendedLoadStore, [w]⟩

/-- TransferRowsWithImmediateOffsetComplete: a well-formed instruction of every row, with `wb` at both values where it is free. -/
theorem witness_transfer_rows_imm :
    [ Instr.ldrImmP1 0xE#4 true true false false true 0xF#4 0x0#4 0xFFF#12, .ldrImmP1 0xE#4 true false false true true 0x0#4 0xF#4 0x000#12,
      .ldrImmP0 0xE#4 false true false false true 0x1#4 0x0#4 0x004#12, .ldrtImm 0xE#4 false true false true true 0x1#4 0x0#4 0x004#12,
      .strImmP1 0xE#4 true true false true false 0x1#4 0x0#4 0x004#12, .strImmP0 0xE#4 false true false false false 0x1#4 0x0#4 0x004#12,
      .strtImm 0xE#4 false true false true false 0x1#4 0x0#4 0x004#12, .ldrbImmP1 0xE#4 true true true false true 0x1#4 0x0#4 0x004#12,
      .ldrbImmP0 0xE#4 false true true false true 0x1#4 0x0#4 0x004#12, .ldrbtImm 0xE#4 false true true true true 0x1#4 0x0#4 0x004#12,
      .strbImmP1 0xE#4 true true true true false 0x1#4 0x0#4 0x004#12, .strbImmP0 0xE#4 false true true false false 0x1#4 0x0#4 0x004#12,
      .strbtImm 0xE#4 false true true true false 0x1#4 0x0#4 0x004#12 ].all Instr.wf = true := by decide

/-- TransferRowsWithRegisterOffsetComplete: a well-formed instruction of every row. -/
theorem witness_transfer_rows_reg :
    [ Instr.ldrRegP1 0xE#4 true true false false true 0xF#4 0x0#4 0x1F#5 0b11#2 0xF#4, .ldrRegP1 0xE#4 true false false true true 0x0#4 0xF#4 0x00#5 0b00#2 0x0#4,
      .ldrRegP0 0xE#4 false true false false true 0x1#4 0x0#4 0x04#5 0b00#2 0x2#4, .ldrtReg 0xE#4 false true false true true 0x1#4 0x0#4 0x04#5 0b00#2 0x2#4,
      .strRegP1 0xE#4 true true false true false 0x1#4 0x0#4 0x04#5 0b00#2 0x2#4, .strRegP0 0xE#4 false true false false false 0x1#4 0x0#4 0x04#5 0b00#2 0x2#4,
      .strtReg 0xE#4 false true false true false 0x1#4 0x0#4 0x04#5 0b00#2 0x2#4, .ldrbRegP1 0xE#4 true true true false true 0x1#4 0x0#4 0x04#5 0b00#2 0x2#4,
      .ldrbRegP0 0xE#4 false true true false true 0x1#4 0x0#4 0x04#5 0b00#2 0x2#4, .ldrbtReg 0xE#4 false true true true true 0x1#4 0x0#4 0x04#5 0b00#2 0x2#4,
      .strbRegP1 0xE#4 true true true true false 0x1#4 0x0#4 0x04#5 0b00#2 0x2#4, .strbRegP0 0xE#4 false true true false false 0x1#4 0x0#4 0x04#5 0b00#2 0x2#4,
      .strbtReg 0xE#4 false true true true false 0x1#4 0x0#4 0x04#5 0b00#2 0x2#4 ].all Instr.wf = true := by decide

/-- BranchRowsComplete, both clauses. -/
theorem witness_branch_rows :
    Instr.wf (.b 0xE#4 false 0xFFFFFF#24) = true ∧ Instr.wf (.bl 0x0#4 true 0x800000#24) = true := by decide

/-- UndefinedRowsComplete: a member of the list. -/
theorem witness_undefined_rows : Instr.undefMajor7 0xF#4 ∈ [Instr.undefMajor6 0xF#4, Instr.undefMajor7 0xF#4] := by decide

/-- The three operand forms of a word with this ALU opcode, as ThreeOperandAluWordsDecode, ComparisonWordsDecode and MoveWordsDecode
ask for them: the given word in the shifted-by-immediate, shifted-by-register and immediate form. -/
def threeForms (opcode : OpcodeField) (si sr ri : Word) : Bool :=
  [si, sr, ri].all (fun w => field (showing w).present.instr 21 4 == opcode && flag (showing w).present.instr 20) &&
  field si 25 3 == 0b000#3 && !flag si 4 && field sr 25 3 == 0b000#3 && !flag sr 7 && flag sr 4 && field ri 25 3 == 0b001#3

/-- ThreeOperandAluWordsDecode: the first and the last opcode of its list, in each form, with all-ones operands in the last. -/
theorem witness_three_operand_words :
    threeForms 0b0000#4 0x00100000#32 0x00100010#32 0x02100000#32 = true ∧
    threeForms 0b1110#4 0xF1DFFFEF#32 0xF1DFFF7F#32 0xF3DFFFFF#32 = true := by decide

/-- ComparisonWordsDecode. -/
theorem witness_comparison_words :
    threeForms 0b1000#4 0x01100000#32 0x01100010#32 0x03100000#32 = true ∧
    threeForms 0b1011#4 0xF17FFFEF#32 0xF17FFF7F#32 0xF37FFFFF#32 = true := by decide

/-- MoveWordsDecode. -/
theorem witness_move_words :
    threeForms 0b1101#4 0x01B00000#32 0x01B00010#32 0x03B00000#32 = true ∧
    threeForms 0b1111#4 0xF1FFFFEF#32 0xF1FFFF7F#32 0xF3FFFFFF#32 = true := by decide

/-- ComparisonsOnlyWithFlagsBit: a comparison is answered, in each major. -/
theorem witness_comparisons_only :
    (showing 0xE1500001#32).Answers (.cmp ⟨0⟩ (.shift ⟨1⟩ .lsl (.imm 0#5))) ∧
    (showing 0xE3500005#32).Answers (.cmp ⟨0⟩ (.immediate 0x05#8 0#4)) ∧
    (Operation.cmp ⟨0⟩ (.immediate 0x05#8 0#4)).isComparison = true := ⟨rfl, rfl, rfl⟩

/-- PsrAndExchangeWordsDecode, the three clauses: `lo` is 0 or 1 and `hi` as each asks, on words with every other bit set. -/
theorem witness_psr_and_exchange_words :
    [0xF14FFF0F#32, 0xF16FFF0F#32, 0xF16FFF1F#32].all (fun w =>
      field (showing w).present.instr 25 3 == 0b000#3 && field w 23 2 == 0b10#2 && !flag w 20) = true ∧
    flag 0xF14FFF0F#32 21 = false ∧ field 0xF14FFF0F#32 4 4 = 0b0000#4 ∧
    flag 0xF16FFF0F#32 21 = true ∧ field 0xF16FFF0F#32 4 4 = 0b0000#4 ∧
    flag 0xF16FFF1F#32 21 = true ∧ field 0xF16FFF1F#32 4 4 = 0b0001#4 := by decide

/-- MsrImmediateWordsDecode. -/
theorem witness_msr_immediate_words :
    field (showing 0xE36FF0FF#32).present.instr 25 3 = 0b001#3 ∧ field 0xE36FF0FF#32 23 2 = 0b10#2 ∧
    flag 0xE36FF0FF#32 20 = false ∧ flag 0xE36FF0FF#32 21 = true := by decide

/-- MajorsFourSixSevenAreUndefined, each major. -/
theorem witness_majors_four_six_seven :
    field (showing 0xE8000000#32).present.instr 25 3 = 4#3 ∧ field (showing 0xEDFFFFFF#32).present.instr 25 3 = 6#3 ∧
    field (showing 0xEF000000#32).present.instr 25 3 = 7#3 := by decide

/-- UndefinedExactlyOnItsSpaces and UnresolvedExactlyOnItsSpace: words on both sides of each. -/
theorem witness_undefined_and_unresolved_spaces :
    (showing 0xE6000010#32).Answers .undefined ∧ (showing 0xE3400000#32).Answers .undefined ∧
    (showing 0xE1000070#32).Answers .undefined ∧ ¬(showing 0xE12FFF10#32).Answers .undefined ∧
    step (showing 0xE10000F0#32) = .refused (.unresolved .multiplyExtendedLoadStore) ∧
    (∃ t, step (showing 0xE0100080#32) = .next t) :=
  ⟨rfl, rfl, rfl, (fun h => by cases h), rfl, _, rfl⟩

/-- IndexingAndUnprivilegedOverride and TransferOperandsAreTheWordsFields: a word of each major. -/
theorem witness_transfer_words :
    field (showing 0xE5B12004#32).present.instr 25 3 = 2#3 ∧ field (showing 0xE6B10102#32).present.instr 25 3 = 3#3 ∧
    flag (showing 0xE6B10102#32).present.instr 4 = false := by decide

/-- BranchWordsGiveRawBytes, both clauses. -/
theorem witness_branch_words :
    field (showing 0xEA800000#32).present.instr 25 3 = 0b101#3 ∧ flag (showing 0xEA800000#32).present.instr 24 = false ∧
    field (showing 0x0B123456#32).present.instr 25 3 = 0b101#3 ∧ flag (showing 0x0B123456#32).present.instr 24 = true := by decide

/-- BranchBytesDenoteTheLowTwentyFourBits. -/
theorem witness_branch_bytes : (showing 0x0B123456#32).Answers (.b true ⟨0x56#8, 0x34#8, 0x12#8⟩) := rfl

/-- RotatedImmediateStaysRaw, both disjuncts. -/
theorem witness_rotated_immediate :
    field (showing 0xE3100000#32).present.instr 25 3 = 0b001#3 ∧ flag (showing 0xE3100000#32).present.instr 20 = true ∧
    field (showing 0xE3A00001#32).present.instr 25 3 = 0b001#3 ∧ field (showing 0xE3A00001#32).present.instr 23 2 ≠ 0b10#2 := by
  decide

/-- ReservedConditionDecodesLikeAnyOther and OutputIsAFunctionOfTheWord: two states that agree as each asks and differ otherwise. -/
theorem witness_same_low_bits_and_same_word :
    field (showing 0xFA000000#32).present.instr 0 28 = field (showing 0x0A000000#32).present.instr 0 28 ∧
    unresolvedWord (showing 0xFA000000#32).present.instr = false ∧
    (showing 0xFA000000#32).present.instr = (State.mk 0xFA000000#32 State.reset.result []).present.instr ∧
    (showing 0xFA000000#32).Answers (.b false ⟨0x00#8, 0x00#8, 0x00#8⟩) ∧
    step (showing 0xF00000F0#32) = .refused (.unresolved .multiplyExtendedLoadStore) :=
  ⟨by decide, by decide, rfl, rfl, rfl⟩

/-- DecodeOfEncode: a well-formed instruction with non-zero operands. -/
theorem witness_decode_of_encode : Instr.wf (.ldrtReg 0xB#4 false true false true true 0x7#4 0x9#4 0x15#5 0b10#2 0xC#4) = true := by
  decide

/-- IgnoredBitsNeverMatter: two Mrs words that differ in every ignored bit. -/
theorem witness_ignored_bits :
    ∃ r, opcodeTable[(decode 0xE1000000#32).rowIndex]? = some r ∧ 0xE10F0F0F#32 &&& r.care = 0xE1000000#32 &&& r.care :=
  ⟨⟨"Mrs", 0x01000000#32, 0x0FB000F0#32, 0xFFF0F0F0#32⟩, by decide⟩

/-- DecoderAgreesWithTheOpcodeTable and TableMnemonicNamesTheOutput: every row has a word, its own pattern. -/
theorem witness_every_row_has_a_word : opcodeTable.all (fun r => r.matches r.pattern) = true := rfl

/-- TableMnemonicNamesTheOutput: a row of the table, the state that presents its pattern, and the operation answered. -/
theorem witness_table_mnemonic :
    TableRow.mk "Mrs" 0x01000000#32 0x0FB000F0#32 0xFFF0F0F0#32 ∈ opcodeTable ∧
    (TableRow.mk "Mrs" 0x01000000#32 0x0FB000F0#32 0xFFF0F0F0#32).matches (showing 0xE10F0000#32).present.instr = true ∧
    (showing 0xE10F0000#32).Answers (.mrs ⟨0⟩ false) := by
  refine ⟨?_, by decide, rfl⟩
  simp only [opcodeTable, List.mem_append]
  exact .inl (.inl (.inl (.inl (.inl (.inr (.head _))))))

/-- EveryStepLeavesThePortsInAgreement: a step that answers, and a state that satisfies the second clause. -/
theorem witness_ports_in_agreement :
    (∃ t, step (showing 0xEA000000#32) = .next t) ∧ State.reset.portsAgree = true ∧ State.reset.feed = [] ∧
    (∃ t, step State.reset = .next t) := ⟨⟨_, rfl⟩, by decide, rfl, _, rfl⟩

/-- RunPresentsEveryWordInOrder: a run of two decoded words. -/
theorem witness_run_of_decoded_words :
    [0xE3A0000A#32, 0x1AFFFFFD#32] ≠ [] ∧ ∀ w ∈ [0xE3A0000A#32, 0x1AFFFFFD#32], unresolvedWord w = false := by
  refine ⟨by simp, fun w hw => ?_⟩
  rcases List.mem_pair.mp hw with rfl | rfl <;> rfl

/-- RunStopsAtTheFirstUnresolvedWord: a decoded word, then a word of the unresolved space. -/
theorem witness_run_that_stops :
    (∀ w ∈ [0xE8BD8000#32], unresolvedWord w = false) ∧ unresolvedWord 0xE0010392#32 = true := by
  refine ⟨fun w hw => ?_, rfl⟩
  rw [List.mem_singleton.mp hw]
  rfl

/-- StepRunsTheDecodedInstruction, the three clauses. -/
theorem witness_step_runs :
    (showing 0xEA000000#32).feed = [0xEA000000#32] ∧ decode 0xEA000000#32 = .b 0xE#4 false 0x000000#24 ∧
    Instr.wf (.b 0xE#4 false 0x000000#24) = true ∧ State.reset.feed = [] ∧
    Instr.wf (decode State.reset.instr) = true ∧ decodeTableWord 32 0xEA000000 = some (.b 0xE#4 false 0x000000#24) := by
  refine ⟨rfl, ?_, ?_, rfl, ?_, ?_⟩ <;> decide

/-- ExecLeavesInputAndFeedAlone: a meaning that answers a next state. -/
theorem witness_exec_answers : ∃ t, exec (.mrs 0xE#4 false 0x0#4) (showing 0xE10F0000#32) = .next t := ⟨_, rfl⟩

end Sys2Proof.Tests
end

section
/-! PROOFS. Fields read through a wider field: what bits 27-0 of a word fix (spec/30_encoding.md R66), and the bits `fo` and
`se` as parts of the two halves of `lo` that the decoder matches on (R61). -/

namespace Sys2Proof

/-- Two words that agree in bits 27-0 agree in every field that lies inside them. -/
theorem field_eq_of_low28_eq {v w : Word} (h : field v 0 28 = field w 0 28) (lo n : Nat) (h32 : lo + n ≤ 32)
    (h28 : lo + n ≤ 28) : field v lo n h32 = field w lo n h32 := by
  have hv := extractLsb'_field v 0 28 lo n (by decide) h28
  have hw := extractLsb'_field w 0 28 lo n (by decide) h28
  simp only [Nat.zero_add] at hv hw
  rw [← hv, ← hw, h]

theorem flag_eq_of_low28_eq {v w : Word} (h : field v 0 28 = field w 0 28) (k : Nat) (h32 : k + 1 ≤ 32)
    (h28 : k + 1 ≤ 28) : flag v k h32 = flag w k h32 := by
  rw [flag, flag, field_eq_of_low28_eq h k 1 h32 h28]

/-- `fo` is the low bit of the lower half of `lo` (R61). -/
theorem foOf_eq_getLsbD (w : Word) : foOf w = (field w 4 2).getLsbD 0 :=
  (getLsbD_field w 4 2 0 (by decide) (by decide)).symm

/-- `se` is the high bit of the upper half of `lo` (R61). -/
theorem seOf_eq_getLsbD (w : Word) : seOf w = (field w 6 2).getLsbD 1 :=
  (getLsbD_field w 6 2 1 (by decide) (by decide)).symm

end Sys2Proof
end

section
/-! PROOFS. A step says what `decode_arm` says of the word presented. Each decoder of Sys2Proof/Decode.lean is compared, row by
row, with its counterpart of Sys2Proof/Machine/DecodeArm.lean; `step_eq_deliver` is what they come to, and `answers_iff` and
`step_eq_refused_iff` are its two forms for the statements. -/

namespace Sys2Proof.Machine

/-- R92, R202: the block drives an operation under the given condition and refuses an undecoded family. -/
def State.deliver (s : State) (c : CondField) : Except Family Operation → Answer
  | .ok op => s.drive c op
  | .error f => s.refuse f

@[simp] theorem deliver_ok (s : State) (c : CondField) (op : Operation) : s.deliver c (.ok op) = s.drive c op := rfl
@[simp] theorem deliver_error (s : State) (c : CondField) (f : Family) : s.deliver c (.error f) = s.refuse f := rfl

/-! The ALU opcode selects the row by its two halves, as it selects the operation in `aluTable` (R70). -/

theorem exec_decodeDpShiftImm (w : Word) (s : State) :
    exec (decodeDpShiftImm w) s =
      s.drive (condOf w) (dataProcessing w (op2ShiftImm (shiftImmOf w) (shiftOf w) (rmOf w))) := by
  unfold decodeDpShiftImm dataProcessing aluTable
  rw [opcode_upper, opcode_lower]
  split <;> rename_i hhi hlo <;> rw [hhi, hlo] <;> rfl

theorem exec_decodeDpShiftReg (w : Word) (s : State) :
    exec (decodeDpShiftReg w) s =
      s.drive (condOf w) (dataProcessing w (op2ShiftReg (rsOf w) (shiftOf w) (rmOf w))) := by
  unfold decodeDpShiftReg dataProcessing aluTable
  rw [opcode_upper, opcode_lower]
  split <;> rename_i hhi hlo <;> rw [hhi, hlo] <;> rfl

theorem exec_decodeDpRotImm (w : Word) (s : State) :
    exec (decodeDpRotImm w) s = s.drive (condOf w) (dataProcessing w (op2Imm (rotateOf w) (imm8Of w))) := by
  unfold decodeDpRotImm dataProcessing aluTable
  rw [opcode_upper, opcode_lower]
  split <;> rename_i hhi hlo <;> rw [hhi, hlo] <;> rfl

/-! The bits `p`, `wb`, `b` and `l` select the row of a transfer, as they select the operation in `singleTransfer` (R160). -/

theorem exec_decodeTransferImm (w : Word) (s : State) :
    exec (decodeTransferImm w) s = s.drive (condOf w) (transfer w (offsetImm (imm12Of w))) := by
  unfold decodeTransferImm transfer
  split <;> simp only [*] <;> rfl

theorem exec_decodeTransferReg (w : Word) (s : State) :
    exec (decodeTransferReg w) s =
      s.drive (condOf w) (transfer w (offsetReg (shiftImmOf w) (shiftOf w) (rmOf w))) := by
  unfold decodeTransferReg transfer
  split <;> simp only [*] <;> rfl

/-- The words that `decodeMisc` gives the unresolved row never come to it, since R68 tries `fo` and `se` first: for them `h` is
false. -/
theorem exec_decodeMisc {w : Word} (s : State) (h : (foOf w && seOf w) = false) :
    exec (decodeMisc w) s = s.drive (condOf w) (misc w) := by
  rw [foOf_eq_getLsbD, seOf_eq_getLsbD] at h
  unfold decodeMisc misc loOf
  rw [field_four]
  split <;> rename_i hhi hup hlow <;> rw [hup, hlow] at h ⊢ <;> rw [hhi] <;> cases h <;> rfl

theorem exec_decodeBranch (w : Word) (s : State) : exec (decodeBranch w) s = s.drive (condOf w) (branch w) := by
  unfold decodeBranch
  split <;> rfl

theorem exec_decodeMajor0 (w : Word) (s : State) : exec (decodeMajor0 w) s = s.deliver (condOf w) (major0 w) := by
  dsimp only [decodeMajor0, major0]
  split_ifs with hmul hmiscFo hreg hmisc
  · rfl
  · exact exec_decodeMisc s (by simpa using hmul)
  · exact exec_decodeDpShiftReg w s
  · exact exec_decodeMisc s (by simpa using hmul)
  · exact exec_decodeDpShiftImm w s

theorem exec_decodeMajor1 (w : Word) (s : State) : exec (decodeMajor1 w) s = s.drive (condOf w) (major1 w) := by
  dsimp only [decodeMajor1, major1]
  split_ifs with hmsr hband
  · rfl
  · rfl
  · exact exec_decodeDpRotImm w s

/-- Running the row a word decodes to gives what R92 says of the word. -/
theorem exec_decode (w : Word) (s : State) : exec (decode w) s = s.deliver (condOf w) (operationOf w) := by
  unfold decode
  split <;> rename_i hmajor <;> unfold operationOf <;> rw [hmajor]
  · exact exec_decodeMajor0 w s
  · exact exec_decodeMajor1 w s
  · exact exec_decodeTransferImm w s
  · split_ifs
    · rfl
    · exact exec_decodeTransferReg w s
  · rfl
  · exact exec_decodeBranch w s
  · rfl
  · rfl

theorem step_eq_deliver (s : State) :
    step s = s.present.deliver (condOf s.present.instr) (operationOf s.present.instr) :=
  (step_eq s).trans (exec_decode ..)

/-- The operation a step answers is the operation of the word presented. -/
theorem answers_iff (s : State) (op : Operation) : s.Answers op ↔ operationOf s.present.instr = .ok op := by
  rw [State.Answers, step_eq_deliver]
  cases h : operationOf s.present.instr with
  | ok op' => simp [drive_eq_next_iff, eq_comm]
  | error f => simp [refuse_ne_next]

theorem major0_eq_error_iff (w : Word) (f : Family) : major0 w = .error f ↔ (foOf w && seOf w) = true := by
  dsimp only [major0]
  split_ifs with hmul <;> simp [hmul]

theorem operationOf_eq_error_iff (w : Word) (f : Family) : operationOf w = .error f ↔ unresolvedWord w = true := by
  unfold operationOf unresolvedWord
  split <;> rename_i hmajor <;> rw [hmajor]
  · simp [major0_eq_error_iff]
  · simp
  · simp
  · split_ifs <;> simp
  · simp
  · simp
  · simp
  · simp

/-- The refusals of a step (R202). -/
theorem step_eq_refused_iff (s : State) (r : Refusal) :
    step s = .refused r ↔ unresolvedWord s.present.instr = true ∧ r = .unresolved .multiplyExtendedLoadStore := by
  rw [step_eq_deliver, ← operationOf_eq_error_iff _ .multiplyExtendedLoadStore]
  cases h : operationOf s.present.instr with
  | ok op => simp [drive_ne_refused]
  | error f => simp [State.refuse, eq_comm]

/-- Every step answers an operation or refuses (R93). -/
theorem answers_or_refused (s : State) : (∃ op, s.Answers op) ∨ (∃ r, step s = .refused r) := by
  simp only [answers_iff, step_eq_refused_iff]
  cases h : operationOf s.present.instr with
  | ok op => exact .inl ⟨op, rfl⟩
  | error f => exact .inr ⟨_, (operationOf_eq_error_iff ..).mp h, rfl⟩

theorem answers_iff_of_operationOf_eq {s t : State} (h : operationOf s.present.instr = operationOf t.present.instr)
    (op : Operation) : s.Answers op ↔ t.Answers op := by
  rw [answers_iff, answers_iff, h]

theorem step_eq_refused_iff_of_operationOf_eq {s t : State}
    (h : operationOf s.present.instr = operationOf t.present.instr) (r : Refusal) :
    step s = .refused r ↔ step t = .refused r := by
  rw [step_eq_refused_iff, step_eq_refused_iff, ← operationOf_eq_error_iff _ .multiplyExtendedLoadStore,
    ← operationOf_eq_error_iff _ .multiplyExtendedLoadStore, h]

end Sys2Proof.Machine
end

section
/-! PROOFS. The operation of a word is a function of its bits 27-0: no decode path reads the condition field (R66). -/

namespace Sys2Proof.Machine

variable {v w : Word} (h : field v 0 28 = field w 0 28)
include h

theorem dataProcessing_eq_of_low28_eq : dataProcessing v = dataProcessing w := by
  funext op2
  simp (disch := decide) only [dataProcessing, flag_eq_of_low28_eq h, field_eq_of_low28_eq h]

theorem misc_eq_of_low28_eq : misc v = misc w := by
  simp (disch := decide) only [misc, flag_eq_of_low28_eq h, field_eq_of_low28_eq h]

theorem transfer_eq_of_low28_eq : transfer v = transfer w := by
  funext offset
  simp (disch := decide) only [transfer, flag_eq_of_low28_eq h, field_eq_of_low28_eq h]

theorem branch_eq_of_low28_eq : branch v = branch w := by
  simp (disch := decide) only [branch, flag_eq_of_low28_eq h, field_eq_of_low28_eq h]

theorem major0_eq_of_low28_eq : major0 v = major0 w := by
  simp (disch := decide) only [major0, opHiOf, flag_eq_of_low28_eq h, field_eq_of_low28_eq h, misc_eq_of_low28_eq h,
    dataProcessing_eq_of_low28_eq h]

theorem major1_eq_of_low28_eq : major1 v = major1 w := by
  simp (disch := decide) only [major1, msrImmediate, opHiOf, flag_eq_of_low28_eq h, field_eq_of_low28_eq h,
    dataProcessing_eq_of_low28_eq h]

theorem operationOf_eq_of_low28_eq : operationOf v = operationOf w := by
  simp (disch := decide) only [operationOf, flag_eq_of_low28_eq h, field_eq_of_low28_eq h, major0_eq_of_low28_eq h,
    major1_eq_of_low28_eq h, transfer_eq_of_low28_eq h, branch_eq_of_low28_eq h]

end Sys2Proof.Machine
end

section
/-! PROOFS. The statements on the encoding: the mask lanes, the answer as a function of the word, the condition field. -/

namespace Sys2Proof.Machine

/-- Settles O3: the lanes of a word's mask are its flags 16 to 19, and a flag is the bit at its position. -/
theorem maskLanesAreBitsNineteenToSixteen : Obligations.MaskLanesAreBitsNineteenToSixteen := by
  intro w
  simp only [maskOf_field, flag_eq_getLsbD, and_self]

/-- Settles O29: a step is decided by `operationOf` of the word presented, which gives no operation on the unresolved words
only. -/
theorem outputIsAFunctionOfTheWord : Obligations.OutputIsAFunctionOfTheWord := by
  refine ⟨fun s hres => ?_, answers_or_refused, fun s t hword => ?_⟩
  · refine (answers_or_refused s).resolve_right ?_
    rintro ⟨r, hr⟩
    rw [step_eq_refused_iff, hres] at hr
    simp at hr
  · have hop : operationOf s.present.instr = operationOf t.present.instr := congrArg operationOf hword
    exact ⟨fun op => (answers_iff_of_operationOf_eq hop op).mp, fun r => (step_eq_refused_iff_of_operationOf_eq hop r).mp⟩

/-- Settles O28: words that agree in bits 27-0 have one `operationOf`, and that decides the answer of a step. -/
theorem reservedConditionDecodesLikeAnyOther : Obligations.ReservedConditionDecodesLikeAnyOther := by
  refine ⟨rfl, fun s t hlow => ?_⟩
  have hop : operationOf s.present.instr = operationOf t.present.instr := operationOf_eq_of_low28_eq hlow
  rcases answers_or_refused s with ⟨op, hs⟩ | ⟨r, hs⟩
  · exact .inl ⟨op, hs, (answers_iff_of_operationOf_eq hop op).mp hs⟩
  · exact .inr ⟨r, hs, (step_eq_refused_iff_of_operationOf_eq hop r).mp hs⟩

end Sys2Proof.Machine
end

section
/-! PROOFS. The sample words of the spec (spec/95_test_vectors.md sections 1 and 2, R120, R165). -/

namespace Sys2Proof.Machine

/-- Settles O43: every word is a literal, so the decode tree runs on it (R67 to R69, R140) and the rows are compared. -/
theorem sampleWordsDecodeAsTheSpecWritesThem : Obligations.SampleWordsDecodeAsTheSpecWritesThem := by
  unfold Obligations.SampleWordsDecodeAsTheSpecWritesThem
  decide

end Sys2Proof.Machine
end

section
/-! PROOFS. Single data transfers: what a step answers for a transfer word of each major, and the constructor that the control
bits select (spec/42_single_data_transfer.md R160 to R162). -/

namespace Sys2Proof.Machine

/-- A word of major 2 is a transfer with the immediate offset of R77. -/
theorem answers_transfer_of_major_two {s : State} (hmajor : majorOf s.present.instr = 2#3) :
    s.Answers (transfer s.present.instr (offsetImm (imm12Of s.present.instr))) := by
  rw [answers_iff, operationOf, hmajor]
  rfl

/-- A word of major 3 with bit 4 clear is a transfer with the register offset of R78. -/
theorem answers_transfer_of_major_three {s : State} (hmajor : majorOf s.present.instr = 3#3)
    (hfo : foOf s.present.instr = false) :
    s.Answers (transfer s.present.instr
      (offsetReg (shiftImmOf s.present.instr) (shiftOf s.present.instr) (rmOf s.present.instr))) := by
  rw [answers_iff, operationOf, hmajor]
  exact if_neg (Bool.eq_false_iff.mp hfo)

/-- R160, R162: the override, the load bit and the byte bit choose the constructor, each on its own. -/
theorem singleTransfer_eq_ite (p u b wb l : Bool) (rn rd : RegField) (offset : Offset2) :
    singleTransfer p u b wb l rn rd offset =
      if unprivileged p wb then
        (if l then (if b then .ldrbt (reg rd) (mode2 p u wb rn offset) else .ldrt (reg rd) (mode2 p u wb rn offset))
          else (if b then .strbt (reg rd) (mode2 p u wb rn offset) else .strt (reg rd) (mode2 p u wb rn offset)))
      else
        (if l then (if b then .ldrb (reg rd) (mode2 p u wb rn offset) else .ldr (reg rd) (mode2 p u wb rn offset))
          else (if b then .strb (reg rd) (mode2 p u wb rn offset) else .str (reg rd) (mode2 p u wb rn offset))) := by
  unfold singleTransfer
  cases unprivileged p wb <;> cases l <;> cases b <;> rfl

/-- Settles O23: whichever the major, the step answers `transfer` of the word. Its mode reads bits 24, 23 and 21 as R161 and
R76 do, and `singleTransfer_eq_ite` gives its constructor. -/
theorem indexingAndUnprivilegedOverride : Obligations.IndexingAndUnprivilegedOverride := by
  intro s hword
  have htransfer : ∃ offset, s.Answers (transfer s.present.instr offset) := by
    rcases hword with hmajor | ⟨hmajor, hfo⟩
    · exact ⟨_, answers_transfer_of_major_two hmajor⟩
    · exact ⟨_, answers_transfer_of_major_three hmajor hfo⟩
  obtain ⟨offset, hanswer⟩ := htransfer
  rw [transfer, singleTransfer_eq_ite] at hanswer
  exact ⟨_, mode2 (pOf s.present.instr) (uOf s.present.instr) (wbOf s.present.instr) (rnOf s.present.instr) offset,
    mode2_indexing .., mode2_subtract .., hanswer⟩

end Sys2Proof.Machine
end

section
/-! PROOFS. Branches: the bytes a word of major 5 gives (spec/43_branch.md R190, R191; R79), and that no other major answers `B`
(R67), so the bytes of every output branch denote bits 23-0 of its word (R42). -/

namespace Sys2Proof.Machine

/-- R79, R190, R191: the branch operands as fields of the word. -/
theorem branch_eq (w : Word) : branch w = .b (flag w 24) ⟨field w 0 8, field w 8 8, field w 16 8⟩ :=
  congrArg (Operation.b _) (offsetBytes_field w)

/-- A word of major 5 is a branch. -/
theorem answers_branch_of_major_five {s : State} (hmajor : majorOf s.present.instr = 5#3) :
    s.Answers (branch s.present.instr) := by
  rw [answers_iff, operationOf, hmajor]
  rfl

/-! No decoder but the one of major 5 answers `B`. -/

theorem dataProcessing_ne_b (w : Word) (op2 : Op2) (link : Bool) (o : OffsetBytes) : dataProcessing w op2 ≠ .b link o := by
  unfold dataProcessing
  cases aluTable (opcodeOf w) <;> exact Operation.noConfusion

theorem misc_ne_b (w : Word) (link : Bool) (o : OffsetBytes) : misc w ≠ .b link o := by
  dsimp only [misc]
  split_ifs <;> exact Operation.noConfusion

theorem transfer_ne_b (w : Word) (offset : Offset2) (link : Bool) (o : OffsetBytes) : transfer w offset ≠ .b link o := by
  rw [transfer, singleTransfer_eq_ite]
  split_ifs <;> exact Operation.noConfusion

theorem major0_ne_ok_b (w : Word) (link : Bool) (o : OffsetBytes) : major0 w ≠ .ok (.b link o) := by
  dsimp only [major0]
  split_ifs <;> simp [misc_ne_b, dataProcessing_ne_b]

theorem major1_ne_b (w : Word) (link : Bool) (o : OffsetBytes) : major1 w ≠ .b link o := by
  dsimp only [major1]
  split_ifs <;> simp [msrImmediate, dataProcessing_ne_b]

/-- A word whose operation is `B` came to the branch decoder. -/
theorem branch_eq_of_operationOf_eq_b {w : Word} {link : Bool} {o : OffsetBytes} (h : operationOf w = .ok (.b link o)) :
    branch w = .b link o := by
  unfold operationOf at h
  split at h
  · exact (major0_ne_ok_b _ _ _ h).elim
  · exact (major1_ne_b _ _ _ (Except.ok.inj h)).elim
  · exact (transfer_ne_b _ _ _ _ (Except.ok.inj h)).elim
  · split_ifs at h
    · cases h
    · exact (transfer_ne_b _ _ _ _ (Except.ok.inj h)).elim
  · cases h
  · exact Except.ok.inj h
  · cases h
  · cases h

/-- Settles O25: a word of major 5 answers `branch` of itself, whose link is bit 24. -/
theorem branchWordsGiveRawBytes : Obligations.BranchWordsGiveRawBytes := by
  intro s hmajor
  have hanswer := answers_branch_of_major_five hmajor
  rw [branch_eq] at hanswer
  constructor <;> intro hlink <;> rwa [hlink] at hanswer

/-- Settles O26: the operation answered is `branch` of the word, and the bytes of a 24-bit offset denote that offset. -/
theorem branchBytesDenoteTheLowTwentyFourBits : Obligations.BranchBytesDenoteTheLowTwentyFourBits := by
  intro s link o hanswer
  have hbranch := branch_eq_of_operationOf_eq_b ((answers_iff ..).mp hanswer)
  obtain ⟨rfl, rfl⟩ := Operation.b.inj hbranch
  refine ⟨?_, flag_eq_getLsbD ..⟩
  exact (offsetBytes_value _).trans (BitVec.extractLsb'_toNat ..)

end Sys2Proof.Machine
end

section
/-! PROOFS. The undefined majors, the unresolved space and the run that meets it (spec/44_undefined_unresolved.md). -/

namespace Sys2Proof.Machine

/-- Settles O20: `operationOf` gives each of the three majors `Undefined` and reads no other bit. -/
theorem majorsFourSixSevenAreUndefined : Obligations.MajorsFourSixSevenAreUndefined := by
  intro s hmajor
  rw [answers_iff, operationOf]
  rcases hmajor with h | h | h <;> rw [majorOf, h] <;> rfl

/-- The unresolved space, bit by bit (R202). -/
theorem unresolvedWord_iff (w : Word) :
    unresolvedWord w = true ↔ field w 25 3 = 0b000#3 ∧ flag w 7 = true ∧ flag w 4 = true := by
  simp only [unresolvedWord, Bool.and_eq_true, beq_iff_eq]
  exact and_assoc.trans (and_congr_right' and_comm)

/-- Settles O22: `step_eq_refused_iff` gives the words that are refused and the one name they are refused by. -/
theorem unresolvedExactlyOnItsSpace : Obligations.UnresolvedExactlyOnItsSpace := by
  intro s
  constructor
  · rw [step_eq_refused_iff, unresolvedWord_iff, and_iff_left rfl]
  · intro r hr
    exact ((step_eq_refused_iff s r).mp hr).2

theorem present_of_feed_cons {s : State} {w : Word} {rest : List Word} (h : s.feed = w :: rest) :
    s.present = ⟨w, s.result, rest⟩ := by
  rw [State.present, h]

/-- A step on a word outside the unresolved space leaves that word and its decoding at the ports, and the rest of the feed. -/
theorem step_of_feed_cons {s : State} {w : Word} {rest : List Word} (h : s.feed = w :: rest)
    (hw : unresolvedWord w = false) : step s = .next ⟨w, decodeArm w, rest⟩ := by
  rw [step_eq_deliver, present_of_feed_cons h]
  cases hop : operationOf w with
  | ok op => rw [decodeArm_of_ok hop]; rfl
  | error f => simp [(operationOf_eq_error_iff w f).mp hop] at hw

/-- A step on a word of the unresolved space is refused (R202). -/
theorem step_refused_of_feed_cons {s : State} {w : Word} {rest : List Word} (h : s.feed = w :: rest)
    (hw : unresolvedWord w = true) : step s = .refused (.unresolved .multiplyExtendedLoadStore) := by
  rw [step_eq_refused_iff, present_of_feed_cons h]
  exact ⟨hw, rfl⟩

/-- A run that reaches the first unresolved word of its feed is refused there, however many steps `k` it had left. -/
theorem run_refused_of_feed {ws rest : List Word} {w : Word} {s : State} (k : Nat)
    (hws : ∀ v ∈ ws, unresolvedWord v = false) (hw : unresolvedWord w = true) (hfeed : s.feed = ws ++ w :: rest) :
    Sys2Proof.core.run (ws.length + 1 + k) s = .refused (.unresolved .multiplyExtendedLoadStore) := by
  rw [Nat.add_right_comm]
  induction ws generalizing s with
  | nil => exact run_succ_of_refused _ (step_refused_of_feed_cons hfeed hw)
  | cons v vs ih =>
    obtain ⟨hv, hvs⟩ := List.forall_mem_cons.mp hws
    rw [List.length_cons, Nat.add_right_comm vs.length 1 k, run_succ_of_next _ (step_of_feed_cons hfeed hv)]
    exact ih hvs rfl

/-- Settles O40: the loaded feed is the one `run_refused_of_feed` speaks of. -/
theorem runStopsAtTheFirstUnresolvedWord : Obligations.RunStopsAtTheFirstUnresolvedWord :=
  fun _ _ _ _ k hws hw => run_refused_of_feed k hws hw rfl

/-- Settles O13: the meaning of the row refuses without reading the condition or the state. -/
theorem unresolvedRowIsRefusedByName : Obligations.UnresolvedRowIsRefusedByName :=
  fun _ _ => rfl

end Sys2Proof.Machine
end

section
/-! PROOFS. The decoder reads back what the encoder wrote (spec/30_encoding.md section 8), and what well-formedness says of the
control bits of a transfer (spec/42_single_data_transfer.md R162). -/

namespace Sys2Proof

theorem wfP1_iff (rowB rowL p b l : Bool) : wfP1 rowB rowL p b l = true ↔ p = true ∧ b = rowB ∧ l = rowL := by
  simp [wfP1, and_assoc]

theorem wfP0_iff (rowB rowL p wb b l : Bool) :
    wfP0 rowB rowL p wb b l = true ↔ p = false ∧ wb = false ∧ b = rowB ∧ l = rowL := by
  simp [wfP0, and_assoc]

theorem wfT_iff (rowB rowL p wb b l : Bool) :
    wfT rowB rowL p wb b l = true ↔ p = false ∧ wb = true ∧ b = rowB ∧ l = rowL := by
  simp [wfT, and_assoc]

/-- Format by format: the fields of the format's words decide every branch of the decode tree, down to the row. The rows left
to the last line are those of the miscellaneous space. -/
theorem decode_encode {i : Instr} (hwf : i.wf = true) : decode (encode i) = i := by
  cases i
  case andShiftImm | eorShiftImm | subShiftImm | rsbShiftImm | addShiftImm | adcShiftImm | sbcShiftImm | rscShiftImm |
      tstShiftImm | teqShiftImm | cmpShiftImm | cmnShiftImm | orrShiftImm | movShiftImm | bicShiftImm | mvnShiftImm =>
    simp [encode, decode, decodeMajor0, decodeDpShiftImm, fields_formatDpShiftImm]
  case andShiftReg | eorShiftReg | subShiftReg | rsbShiftReg | addShiftReg | adcShiftReg | sbcShiftReg | rscShiftReg |
      tstShiftReg | teqShiftReg | cmpShiftReg | cmnShiftReg | orrShiftReg | movShiftReg | bicShiftReg | mvnShiftReg =>
    simp [encode, decode, decodeMajor0, decodeDpShiftReg, fields_formatDpShiftReg]
  case andRotImm | eorRotImm | subRotImm | rsbRotImm | addRotImm | adcRotImm | sbcRotImm | rscRotImm |
      tstRotImm | teqRotImm | cmpRotImm | cmnRotImm | orrRotImm | movRotImm | bicRotImm | mvnRotImm =>
    simp [encode, decode, decodeMajor1, decodeDpRotImm, fields_formatDpRotImm]
  case msrImm | undefMajor1Band =>
    simp [encode, decode, decodeMajor1, fields_formatMajor1Band]
  case ldrImmP1 | ldrImmP0 | ldrtImm | strImmP1 | strImmP0 | strtImm | ldrbImmP1 | ldrbImmP0 | ldrbtImm | strbImmP1 |
      strbImmP0 | strbtImm =>
    simp only [Instr.wf, wfP1_iff, wfP0_iff, wfT_iff] at hwf
    simp [encode, decode, decodeTransferImm, fields_formatTransferImm, hwf]
  case ldrRegP1 | ldrRegP0 | ldrtReg | strRegP1 | strRegP0 | strtReg | ldrbRegP1 | ldrbRegP0 | ldrbtReg | strbRegP1 |
      strbRegP0 | strbtReg =>
    simp only [Instr.wf, wfP1_iff, wfP0_iff, wfT_iff] at hwf
    simp [encode, decode, decodeTransferReg, fields_formatTransferReg, hwf]
  case b | bl =>
    simp only [Instr.wf, Bool.not_eq_true'] at hwf
    simp [encode, decode, decodeBranch, fields_formatBranch, hwf]
  case undefMajor3Bit4 | undefMajor4 | undefMajor6 | undefMajor7 | unresolvedMultiplyExtendedLoadStore =>
    simp [encode, decode, decodeMajor0, fields_formatFixed]
  all_goals simp [encode, decode, decodeMajor0, decodeMisc, fields_formatMisc]

/-- Settles O30: `decode_encode`, over the formats of the encoder. -/
theorem decodeOfEncode : Obligations.DecodeOfEncode :=
  fun _ => decode_encode

end Sys2Proof
end

section
/-! PROOFS. A word is the word its fields spell: adjacent fields append to one field, so each format of spec/30_encoding.md
section 8 gives back every word that has the format's fixed cells. And the fields of a masked word, where the mask keeps a field
or clears it. -/

namespace Sys2Proof

theorem field_append {hi lo k n : Nat} (w : Word) (hhi : hi + k ≤ 32) (hlo : lo + n ≤ 32) (h : hi = lo + n) :
    field w hi k hhi ++ field w lo n hlo = field w lo (k + n) (by omega) :=
  BitVec.extractLsb'_append_extractLsb'_eq_extractLsb' h

theorem field_full (w : Word) : field w 0 32 = w := BitVec.extractLsb'_eq_self

theorem ofBool_flag (w : Word) (k : Nat) (h : k + 1 ≤ 32) : BitVec.ofBool (flag w k h) = field w k 1 h := by
  unfold flag
  generalize field w k 1 h = b
  revert b
  decide

theorem ofBool_eq_field {w : Word} {k : Nat} {b : Bool} (h : k + 1 ≤ 32) (hb : flag w k h = b) :
    BitVec.ofBool b = field w k 1 h := by
  rw [← hb, ofBool_flag]

theorem field_and_of_allOnes {m : Word} {lo n : Nat} {h : lo + n ≤ 32} (hm : field m lo n h = BitVec.allOnes n) (w : Word) :
    field (w &&& m) lo n h = field w lo n h := by
  rw [field, BitVec.extractLsb'_and]
  exact (congrArg _ hm).trans BitVec.and_allOnes

theorem field_and_of_zero {m : Word} {lo n : Nat} {h : lo + n ≤ 32} (hm : field m lo n h = 0#n) (w : Word) :
    field (w &&& m) lo n h = 0#n := by
  rw [field, BitVec.extractLsb'_and]
  exact (congrArg _ hm).trans BitVec.and_zero

theorem flag_and (w m : Word) (k : Nat) (h : k + 1 ≤ 32) : flag (w &&& m) k h = (flag w k h && flag m k h) := by
  simp only [flag_eq_getLsbD, BitVec.getLsbD_and]

theorem flag_and_of_true {m : Word} {k : Nat} {h : k + 1 ≤ 32} (hm : flag m k h = true) (w : Word) :
    flag (w &&& m) k h = flag w k h := by
  rw [flag_and, hm, Bool.and_true]

theorem flag_and_of_false {m : Word} {k : Nat} {h : k + 1 ≤ 32} (hm : flag m k h = false) (w : Word) :
    flag (w &&& m) k h = false := by
  rw [flag_and, hm, Bool.and_false]

theorem eq_formatDpShiftImm (w : Word) (hmajor : majorOf w = 0b000#3) (hfo : foOf w = false) :
    w = formatDpShiftImm (condOf w) (opcodeOf w) (sOf w) (rnOf w) (rdOf w) (shiftImmOf w) (shiftOf w) (rmOf w) := by
  rw [formatDpShiftImm, ← hmajor, show 0b0#1 = _ from ofBool_eq_field _ hfo]
  simp (disch := decide) only [ofBool_flag, field_append]
  exact (field_full w).symm

theorem eq_formatDpShiftReg (w : Word) (hmajor : majorOf w = 0b000#3) (hse : seOf w = false) (hfo : foOf w = true) :
    w = formatDpShiftReg (condOf w) (opcodeOf w) (sOf w) (rnOf w) (rdOf w) (rsOf w) (shiftOf w) (rmOf w) := by
  rw [formatDpShiftReg, ← hmajor, show 0b0#1 = _ from ofBool_eq_field _ hse, show 0b1#1 = _ from ofBool_eq_field _ hfo]
  simp (disch := decide) only [ofBool_flag, field_append]
  exact (field_full w).symm

theorem eq_formatDpRotImm (w : Word) (hmajor : majorOf w = 0b001#3) :
    w = formatDpRotImm (condOf w) (opcodeOf w) (sOf w) (rnOf w) (rdOf w) (rotateOf w) (imm8Of w) := by
  rw [formatDpRotImm, ← hmajor]
  simp (disch := decide) only [ofBool_flag, field_append]
  exact (field_full w).symm

theorem eq_formatMisc (w : Word) (hmajor : majorOf w = 0b000#3) (hop : field w 23 2 = 0b10#2) (hs : sOf w = false) :
    w = formatMisc (condOf w) (rOf w) (hiOf w) (rnOf w) (rdOf w) (rsOf w) (loOf w) (rmOf w) := by
  rw [formatMisc, ← hmajor, ← hop, show 0b0#1 = _ from ofBool_eq_field _ hs]
  simp (disch := decide) only [ofBool_flag, field_append]
  exact (field_full w).symm

theorem eq_formatMajor1Band (w : Word) (hmajor : majorOf w = 0b001#3) (hop : field w 23 2 = 0b10#2) (hs : sOf w = false) :
    w = formatMajor1Band (condOf w) (rOf w) (opLoOf w) (maskFieldOf w) (rdOf w) (rotateOf w) (imm8Of w) := by
  rw [formatMajor1Band, ← hmajor, ← hop, show 0b0#1 = _ from ofBool_eq_field _ hs]
  simp (disch := decide) only [ofBool_flag, field_append]
  exact (field_full w).symm

theorem eq_formatTransferImm (w : Word) (hmajor : majorOf w = 0b010#3) :
    w = formatTransferImm (condOf w) (pOf w) (uOf w) (bOf w) (wbOf w) (lOf w) (rnOf w) (rdOf w) (imm12Of w) := by
  rw [formatTransferImm, ← hmajor]
  simp (disch := decide) only [ofBool_flag, field_append]
  exact (field_full w).symm

theorem eq_formatTransferReg (w : Word) (hmajor : majorOf w = 0b011#3) (hfo : foOf w = false) :
    w = formatTransferReg (condOf w) (pOf w) (uOf w) (bOf w) (wbOf w) (lOf w) (rnOf w) (rdOf w) (shiftImmOf w) (shiftOf w)
      (rmOf w) := by
  rw [formatTransferReg, ← hmajor, show 0b0#1 = _ from ofBool_eq_field _ hfo]
  simp (disch := decide) only [ofBool_flag, field_append]
  exact (field_full w).symm

theorem eq_formatBranch (w : Word) (hmajor : majorOf w = 0b101#3) :
    w = formatBranch (condOf w) (linkOf w) (offset24Of w) := by
  rw [formatBranch, ← hmajor]
  simp (disch := decide) only [ofBool_flag, field_append]
  exact (field_full w).symm

/-- The cells that the rows of `formatFixed` fix: the major opcode, `se` and `fo`. -/
theorem eq_formatFixed (w : Word) :
    w = formatFixed (condOf w)
      (majorOf w ++ field w 8 17 ++ BitVec.ofBool (seOf w) ++ field w 5 2 ++ BitVec.ofBool (foOf w) ++ field w 0 4) := by
  simp (disch := decide) only [formatFixed, ofBool_flag, field_append]
  exact (field_full w).symm

/-- The same word with nothing but the major opcode as a cell of its own. -/
theorem eq_formatFixed_major (w : Word) : w = formatFixed (condOf w) (majorOf w ++ field w 0 25) := by
  simp (disch := decide) only [formatFixed, field_append]
  exact (field_full w).symm

end Sys2Proof
end

section
/-! PROOFS. The row of an instruction in the opcode table, and that each word has the fixed bits of the row it decodes to and
encodes back to its bits that the row reads (spec/30_encoding.md sections 5, 8 and 9; spec/opcode_table.json). The claim goes
down the decode tree; at each row `w` is masked with the row's mask and its care mask, cell by cell of the row's format. -/

namespace Sys2Proof

theorem rowIndex_lt (i : Instr) : i.rowIndex < opcodeTable.length := by
  cases i <;> exact of_decide_eq_true rfl

/-- The row of the opcode table that an instruction belongs to. -/
def Instr.row (i : Instr) : TableRow := opcodeTable[i.rowIndex]'(rowIndex_lt i)

theorem getElem?_rowIndex (i : Instr) : opcodeTable[i.rowIndex]? = some i.row := List.getElem?_eq_getElem _

/-- `w` has the fixed bits of the instruction's row, and the instruction's word is `w` but for the bits that row ignores. -/
def Instr.Reads (i : Instr) (w : Word) : Prop := w &&& i.row.mask = i.row.pattern ∧ w &&& i.row.care = encode i

section DataProcessing

variable {w : Word} {opcode : OpcodeField}

/-! Three kinds of data-processing rows in each format: with both registers, the comparisons (`s` fixed, bits 15-12 ignored)
and the moves (bits 19-16 ignored). -/

theorem dpShiftImm_row (hmajor : majorOf w = 0b000#3) (hfo : foOf w = false) (hop : opcodeOf w = opcode) :
    w &&& 0x0FE00010#32 = formatDpShiftImm 0#4 opcode false 0#4 0#4 0#5 0#2 0#4 ∧
    w &&& 0xFFFFFFFF#32 =
      formatDpShiftImm (condOf w) opcode (sOf w) (rnOf w) (rdOf w) (shiftImmOf w) (shiftOf w) (rmOf w) := by
  constructor <;> rw [eq_formatDpShiftImm (w &&& _)] <;>
    simp (disch := decide) only [field_and_of_allOnes, field_and_of_zero, flag_and_of_true, flag_and_of_false, hmajor, hfo, hop]

theorem dpShiftImm_comparison_row (hmajor : majorOf w = 0b000#3) (hfo : foOf w = false) (hop : opcodeOf w = opcode)
    (hs : sOf w = true) :
    w &&& 0x0FF00010#32 = formatDpShiftImm 0#4 opcode true 0#4 0#4 0#5 0#2 0#4 ∧
    w &&& 0xFFFF0FFF#32 = formatDpShiftImm (condOf w) opcode true (rnOf w) 0#4 (shiftImmOf w) (shiftOf w) (rmOf w) := by
  constructor <;> rw [eq_formatDpShiftImm (w &&& _)] <;>
    simp (disch := decide) only [field_and_of_allOnes, field_and_of_zero, flag_and_of_true, hmajor, hfo, hop, hs]

theorem dpShiftImm_move_row (hmajor : majorOf w = 0b000#3) (hfo : foOf w = false) (hop : opcodeOf w = opcode) :
    w &&& 0x0FE00010#32 = formatDpShiftImm 0#4 opcode false 0#4 0#4 0#5 0#2 0#4 ∧
    w &&& 0xFFF0FFFF#32 = formatDpShiftImm (condOf w) opcode (sOf w) 0#4 (rdOf w) (shiftImmOf w) (shiftOf w) (rmOf w) := by
  constructor <;> rw [eq_formatDpShiftImm (w &&& _)] <;>
    simp (disch := decide) only [field_and_of_allOnes, field_and_of_zero, flag_and_of_true, flag_and_of_false, hmajor, hfo, hop]

theorem dpShiftReg_row (hmajor : majorOf w = 0b000#3) (hse : seOf w = false) (hfo : foOf w = true)
    (hop : opcodeOf w = opcode) :
    w &&& 0x0FE00090#32 = formatDpShiftReg 0#4 opcode false 0#4 0#4 0#4 0#2 0#4 ∧
    w &&& 0xFFFFFFFF#32 =
      formatDpShiftReg (condOf w) opcode (sOf w) (rnOf w) (rdOf w) (rsOf w) (shiftOf w) (rmOf w) := by
  constructor <;> rw [eq_formatDpShiftReg (w &&& _)] <;>
    simp (disch := decide) only [field_and_of_allOnes, field_and_of_zero, flag_and_of_true, flag_and_of_false, hmajor, hse, hfo,
      hop]

theorem dpShiftReg_comparison_row (hmajor : majorOf w = 0b000#3) (hse : seOf w = false) (hfo : foOf w = true)
    (hop : opcodeOf w = opcode) (hs : sOf w = true) :
    w &&& 0x0FF00090#32 = formatDpShiftReg 0#4 opcode true 0#4 0#4 0#4 0#2 0#4 ∧
    w &&& 0xFFFF0FFF#32 = formatDpShiftReg (condOf w) opcode true (rnOf w) 0#4 (rsOf w) (shiftOf w) (rmOf w) := by
  constructor <;> rw [eq_formatDpShiftReg (w &&& _)] <;>
    simp (disch := decide) only [field_and_of_allOnes, field_and_of_zero, flag_and_of_true, hmajor, hse, hfo, hop, hs]

theorem dpShiftReg_move_row (hmajor : majorOf w = 0b000#3) (hse : seOf w = false) (hfo : foOf w = true)
    (hop : opcodeOf w = opcode) :
    w &&& 0x0FE00090#32 = formatDpShiftReg 0#4 opcode false 0#4 0#4 0#4 0#2 0#4 ∧
    w &&& 0xFFF0FFFF#32 = formatDpShiftReg (condOf w) opcode (sOf w) 0#4 (rdOf w) (rsOf w) (shiftOf w) (rmOf w) := by
  constructor <;> rw [eq_formatDpShiftReg (w &&& _)] <;>
    simp (disch := decide) only [field_and_of_allOnes, field_and_of_zero, flag_and_of_true, flag_and_of_false, hmajor, hse, hfo,
      hop]

theorem dpRotImm_row (hmajor : majorOf w = 0b001#3) (hop : opcodeOf w = opcode) :
    w &&& 0x0FE00000#32 = formatDpRotImm 0#4 opcode false 0#4 0#4 0#4 0#8 ∧
    w &&& 0xFFFFFFFF#32 = formatDpRotImm (condOf w) opcode (sOf w) (rnOf w) (rdOf w) (rotateOf w) (imm8Of w) := by
  constructor <;> rw [eq_formatDpRotImm (w &&& _)] <;>
    simp (disch := decide) only [field_and_of_allOnes, field_and_of_zero, flag_and_of_true, flag_and_of_false, hmajor, hop]

theorem dpRotImm_comparison_row (hmajor : majorOf w = 0b001#3) (hop : opcodeOf w = opcode) (hs : sOf w = true) :
    w &&& 0x0FF00000#32 = formatDpRotImm 0#4 opcode true 0#4 0#4 0#4 0#8 ∧
    w &&& 0xFFFF0FFF#32 = formatDpRotImm (condOf w) opcode true (rnOf w) 0#4 (rotateOf w) (imm8Of w) := by
  constructor <;> rw [eq_formatDpRotImm (w &&& _)] <;>
    simp (disch := decide) only [field_and_of_allOnes, field_and_of_zero, flag_and_of_true, hmajor, hop, hs]

theorem dpRotImm_move_row (hmajor : majorOf w = 0b001#3) (hop : opcodeOf w = opcode) :
    w &&& 0x0FE00000#32 = formatDpRotImm 0#4 opcode false 0#4 0#4 0#4 0#8 ∧
    w &&& 0xFFF0FFFF#32 = formatDpRotImm (condOf w) opcode (sOf w) 0#4 (rdOf w) (rotateOf w) (imm8Of w) := by
  constructor <;> rw [eq_formatDpRotImm (w &&& _)] <;>
    simp (disch := decide) only [field_and_of_allOnes, field_and_of_zero, flag_and_of_true, flag_and_of_false, hmajor, hop]

/-- The rows h_9 to h_12 of each data-processing decoder are the comparisons, h_14 and h_16 the moves. The guard of R68 and R69
leaves a comparison opcode here only with `s` set. -/
theorem reads_decodeDpShiftImm (hmajor : majorOf w = 0b000#3) (hfo : foOf w = false)
    (hdp : (!sOf w && opHiOf w) = false) : (decodeDpShiftImm w).Reads w := by
  have hop : opcodeOf w = field w 23 2 ++ field w 21 2 := field_four w 21 (by decide)
  unfold decodeDpShiftImm
  split <;> rename_i hhi hlo <;> rw [hhi, hlo] at hop
  case h_9 | h_10 | h_11 | h_12 =>
    exact dpShiftImm_comparison_row hmajor hfo hop (by simpa [hhi] using hdp)
  case h_14 | h_16 => exact dpShiftImm_move_row hmajor hfo hop
  all_goals exact dpShiftImm_row hmajor hfo hop

theorem reads_decodeDpShiftReg (hmajor : majorOf w = 0b000#3) (hse : seOf w = false) (hfo : foOf w = true)
    (hdp : (!sOf w && opHiOf w) = false) : (decodeDpShiftReg w).Reads w := by
  have hop : opcodeOf w = field w 23 2 ++ field w 21 2 := field_four w 21 (by decide)
  unfold decodeDpShiftReg
  split <;> rename_i hhi hlo <;> rw [hhi, hlo] at hop
  case h_9 | h_10 | h_11 | h_12 =>
    exact dpShiftReg_comparison_row hmajor hse hfo hop (by simpa [hhi] using hdp)
  case h_14 | h_16 => exact dpShiftReg_move_row hmajor hse hfo hop
  all_goals exact dpShiftReg_row hmajor hse hfo hop

theorem reads_decodeDpRotImm (hmajor : majorOf w = 0b001#3) (hdp : (!sOf w && opHiOf w) = false) :
    (decodeDpRotImm w).Reads w := by
  have hop : opcodeOf w = field w 23 2 ++ field w 21 2 := field_four w 21 (by decide)
  unfold decodeDpRotImm
  split <;> rename_i hhi hlo <;> rw [hhi, hlo] at hop
  case h_9 | h_10 | h_11 | h_12 =>
    exact dpRotImm_comparison_row hmajor hop (by simpa [hhi] using hdp)
  case h_14 | h_16 => exact dpRotImm_move_row hmajor hop
  all_goals exact dpRotImm_row hmajor hop

end DataProcessing

section Miscellaneous

variable {w : Word} {hi : Bool} {lo : BitVec 4} (hmajor : majorOf w = 0b000#3) (hop : field w 23 2 = 0b10#2)
  (hs : sOf w = false)

include hmajor hop hs

theorem misc_mask (hhi : hiOf w = hi) (hlo : loOf w = lo) :
    w &&& 0x0FB000F0#32 = formatMisc 0#4 false hi 0#4 0#4 0#4 lo 0#4 := by
  rw [eq_formatMisc (w &&& _)] <;>
    simp (disch := decide) only [field_and_of_allOnes, field_and_of_zero, flag_and_of_true, flag_and_of_false, hmajor, hop, hs,
      hhi, hlo]

theorem mrs_care (hhi : hiOf w = false) (hlo : loOf w = 0x0#4) :
    w &&& 0xFFF0F0F0#32 = formatMisc (condOf w) (rOf w) false 0#4 (rdOf w) 0#4 0x0#4 0#4 := by
  rw [eq_formatMisc (w &&& _)] <;>
    simp (disch := decide) only [field_and_of_allOnes, field_and_of_zero, flag_and_of_true, hmajor, hop, hs, hhi, hlo]

theorem msr_care (hhi : hiOf w = true) (hlo : loOf w = 0x0#4) :
    w &&& 0xFFFF00FF#32 = formatMisc (condOf w) (rOf w) true (maskFieldOf w) 0#4 0#4 0x0#4 (rmOf w) := by
  rw [eq_formatMisc (w &&& _)] <;>
    simp (disch := decide) only [field_and_of_allOnes, field_and_of_zero, flag_and_of_true, hmajor, hop, hs, hhi, hlo]

theorem bx_care (hhi : hiOf w = true) (hlo : loOf w = 0x1#4) :
    w &&& 0xFFB000FF#32 = formatMisc (condOf w) false true 0#4 0#4 0#4 0x1#4 (rmOf w) := by
  rw [eq_formatMisc (w &&& _)] <;>
    simp (disch := decide) only [field_and_of_allOnes, field_and_of_zero, flag_and_of_true, flag_and_of_false, hmajor, hop, hs,
      hhi, hlo]

theorem undefMisc_care (hhi : hiOf w = hi) (hlo : loOf w = lo) :
    w &&& 0xFFB000F0#32 = formatMisc (condOf w) false hi 0#4 0#4 0#4 lo 0#4 := by
  rw [eq_formatMisc (w &&& _)] <;>
    simp (disch := decide) only [field_and_of_allOnes, field_and_of_zero, flag_and_of_true, flag_and_of_false, hmajor, hop, hs,
      hhi, hlo]

/-- Of the 32 arms, h_1 is `Mrs`, h_17 `Msr` and h_18 `Bx`; the eight with bits 4 and 7 set are no words of this space. -/
theorem reads_decodeMisc (hne : (foOf w && seOf w) = false) : (decodeMisc w).Reads w := by
  have hlo : loOf w = field w 6 2 ++ field w 4 2 := field_four w 4 (by decide)
  rw [foOf_eq_getLsbD, seOf_eq_getLsbD] at hne
  unfold decodeMisc
  split <;> rename_i hhi hup hlow <;> rw [hup, hlow] at hne hlo
  case h_1 => exact ⟨misc_mask hmajor hop hs hhi hlo, mrs_care hmajor hop hs hhi hlo⟩
  case h_17 => exact ⟨misc_mask hmajor hop hs hhi hlo, msr_care hmajor hop hs hhi hlo⟩
  case h_18 => exact ⟨misc_mask hmajor hop hs hhi hlo, bx_care hmajor hop hs hhi hlo⟩
  case h_10 | h_12 | h_14 | h_16 | h_26 | h_28 | h_30 | h_32 => cases hne
  all_goals exact ⟨misc_mask hmajor hop hs hhi hlo, undefMisc_care hmajor hop hs hhi hlo⟩

end Miscellaneous

section Transfers

variable {w : Word} {p byte wb l : Bool}

theorem transferImm_care (hmajor : majorOf w = 0b010#3) :
    w &&& 0xFFFFFFFF#32 =
      formatTransferImm (condOf w) (pOf w) (uOf w) (bOf w) (wbOf w) (lOf w) (rnOf w) (rdOf w) (imm12Of w) := by
  rw [eq_formatTransferImm (w &&& _)] <;>
    simp (disch := decide) only [field_and_of_allOnes, flag_and_of_true, hmajor]

theorem transferReg_care (hmajor : majorOf w = 0b011#3) (hfo : foOf w = false) :
    w &&& 0xFFFFFFFF#32 = formatTransferReg (condOf w) (pOf w) (uOf w) (bOf w) (wbOf w) (lOf w) (rnOf w) (rdOf w)
      (shiftImmOf w) (shiftOf w) (rmOf w) := by
  rw [eq_formatTransferReg (w &&& _)] <;>
    simp (disch := decide) only [field_and_of_allOnes, flag_and_of_true, hmajor, hfo]

/-! The rows with `p` set do not fix `wb`; the others do. -/

theorem transferImm_mask_p1 (hmajor : majorOf w = 0b010#3) (hp : pOf w = p) (hb : bOf w = byte) (hl : lOf w = l) :
    w &&& 0x0F500000#32 = formatTransferImm 0#4 p false byte false l 0#4 0#4 0#12 := by
  rw [eq_formatTransferImm (w &&& _)] <;>
    simp (disch := decide) only [field_and_of_allOnes, field_and_of_zero, flag_and_of_true, flag_and_of_false, hmajor, hp, hb, hl]

theorem transferImm_mask_p0 (hmajor : majorOf w = 0b010#3) (hp : pOf w = p) (hwb : wbOf w = wb) (hb : bOf w = byte)
    (hl : lOf w = l) : w &&& 0x0F700000#32 = formatTransferImm 0#4 p false byte wb l 0#4 0#4 0#12 := by
  rw [eq_formatTransferImm (w &&& _)] <;>
    simp (disch := decide) only [field_and_of_allOnes, field_and_of_zero, flag_and_of_true, flag_and_of_false, hmajor, hp, hwb,
      hb, hl]

theorem transferReg_mask_p1 (hmajor : majorOf w = 0b011#3) (hfo : foOf w = false) (hp : pOf w = p) (hb : bOf w = byte)
    (hl : lOf w = l) : w &&& 0x0F500010#32 = formatTransferReg 0#4 p false byte false l 0#4 0#4 0#5 0#2 0#4 := by
  rw [eq_formatTransferReg (w &&& _)] <;>
    simp (disch := decide) only [field_and_of_allOnes, field_and_of_zero, flag_and_of_true, flag_and_of_false, hmajor, hfo, hp,
      hb, hl]

theorem transferReg_mask_p0 (hmajor : majorOf w = 0b011#3) (hfo : foOf w = false) (hp : pOf w = p) (hwb : wbOf w = wb)
    (hb : bOf w = byte) (hl : lOf w = l) :
    w &&& 0x0F700010#32 = formatTransferReg 0#4 p false byte wb l 0#4 0#4 0#5 0#2 0#4 := by
  rw [eq_formatTransferReg (w &&& _)] <;>
    simp (disch := decide) only [field_and_of_allOnes, field_and_of_zero, flag_and_of_true, flag_and_of_false, hmajor, hfo, hp,
      hwb, hb, hl]

theorem reads_decodeTransferImm (hmajor : majorOf w = 0b010#3) : (decodeTransferImm w).Reads w := by
  unfold decodeTransferImm
  split
  case h_1 | h_2 | h_3 | h_4 =>
    rename_i hp hb hl
    exact ⟨transferImm_mask_p1 hmajor hp hb hl, transferImm_care hmajor⟩
  all_goals
    rename_i hp hwb hb hl
    exact ⟨transferImm_mask_p0 hmajor hp hwb hb hl, transferImm_care hmajor⟩

theorem reads_decodeTransferReg (hmajor : majorOf w = 0b011#3) (hfo : foOf w = false) : (decodeTransferReg w).Reads w := by
  unfold decodeTransferReg
  split
  case h_1 | h_2 | h_3 | h_4 =>
    rename_i hp hb hl
    exact ⟨transferReg_mask_p1 hmajor hfo hp hb hl, transferReg_care hmajor hfo⟩
  all_goals
    rename_i hp hwb hb hl
    exact ⟨transferReg_mask_p0 hmajor hfo hp hwb hb hl, transferReg_care hmajor hfo⟩

end Transfers

theorem reads_decodeBranch {w : Word} (hmajor : majorOf w = 0b101#3) : (decodeBranch w).Reads w := by
  have hmask {link : Bool} (hlink : linkOf w = link) : w &&& 0x0F000000#32 = formatBranch 0#4 link 0#24 := by
    rw [eq_formatBranch (w &&& _)] <;>
      simp (disch := decide) only [field_and_of_allOnes, field_and_of_zero, flag_and_of_true, hmajor, hlink]
  have hcare : w &&& 0xFFFFFFFF#32 = formatBranch (condOf w) (linkOf w) (offset24Of w) := by
    rw [eq_formatBranch (w &&& _)] <;>
      simp (disch := decide) only [field_and_of_allOnes, flag_and_of_true, hmajor]
  unfold decodeBranch
  split
  · rename_i hlink
    exact ⟨hmask hlink, hcare⟩
  · rename_i hlink
    exact ⟨hmask (Bool.eq_false_iff.mpr hlink), hcare⟩

theorem reads_msrImm {w : Word} (hmajor : majorOf w = 0b001#3) (hop : field w 23 2 = 0b10#2) (hs : sOf w = false)
    (hopLo : opLoOf w = true) :
    (Instr.msrImm (condOf w) (rOf w) (maskFieldOf w) (rotateOf w) (imm8Of w)).Reads w := by
  have hmask : w &&& 0x0FB00000#32 = formatMajor1Band 0#4 false true 0#4 0#4 0#4 0#8 := by
    rw [eq_formatMajor1Band (w &&& _)] <;>
      simp (disch := decide) only [field_and_of_allOnes, field_and_of_zero, flag_and_of_true, flag_and_of_false, hmajor, hop, hs,
        hopLo]
  have hcare : w &&& 0xFFFF0FFF#32 =
      formatMajor1Band (condOf w) (rOf w) true (maskFieldOf w) 0#4 (rotateOf w) (imm8Of w) := by
    rw [eq_formatMajor1Band (w &&& _)] <;>
      simp (disch := decide) only [field_and_of_allOnes, field_and_of_zero, flag_and_of_true, hmajor, hop, hs, hopLo]
  exact ⟨hmask, hcare⟩

theorem reads_undefMajor1Band {w : Word} (hmajor : majorOf w = 0b001#3) (hop : field w 23 2 = 0b10#2) (hs : sOf w = false)
    (hopLo : opLoOf w = false) : (Instr.undefMajor1Band (condOf w)).Reads w := by
  have hmask : w &&& 0x0FB00000#32 = formatMajor1Band 0#4 false false 0#4 0#4 0#4 0#8 := by
    rw [eq_formatMajor1Band (w &&& _)] <;>
      simp (disch := decide) only [field_and_of_allOnes, field_and_of_zero, flag_and_of_true, flag_and_of_false, hmajor, hop, hs,
        hopLo]
  have hcare : w &&& 0xFFB00000#32 = formatMajor1Band (condOf w) false false 0#4 0#4 0#4 0#8 := by
    rw [eq_formatMajor1Band (w &&& _)] <;>
      simp (disch := decide) only [field_and_of_allOnes, field_and_of_zero, flag_and_of_true, flag_and_of_false, hmajor, hop, hs,
        hopLo]
  exact ⟨hmask, hcare⟩

/-! The rows of `formatFixed`. -/

theorem reads_unresolved {w : Word} (hmajor : majorOf w = 0b000#3) (hse : seOf w = true) (hfo : foOf w = true) :
    (Instr.unresolvedMultiplyExtendedLoadStore (condOf w)).Reads w := by
  have hmask : w &&& 0x0E000090#32 = formatFixed 0#4 0x0000090#28 := by
    rw [eq_formatFixed (w &&& _)]
    simp (disch := decide) only [field_and_of_allOnes, field_and_of_zero, flag_and_of_true, hmajor, hse, hfo]
    rfl
  have hcare : w &&& 0xFE000090#32 = formatFixed (condOf w) 0x0000090#28 := by
    rw [eq_formatFixed (w &&& _)]
    simp (disch := decide) only [field_and_of_allOnes, field_and_of_zero, flag_and_of_true, hmajor, hse, hfo]
    rfl
  exact ⟨hmask, hcare⟩

theorem reads_undefMajor3Bit4 {w : Word} (hmajor : majorOf w = 0b011#3) (hfo : foOf w = true) :
    (Instr.undefMajor3Bit4 (condOf w)).Reads w := by
  have hmask : w &&& 0x0E000010#32 = formatFixed 0#4 0x6000010#28 := by
    rw [eq_formatFixed (w &&& _)]
    simp (disch := decide) only [field_and_of_allOnes, field_and_of_zero, flag_and_of_true, flag_and_of_false, hmajor, hfo]
    rfl
  have hcare : w &&& 0xFE000010#32 = formatFixed (condOf w) 0x6000010#28 := by
    rw [eq_formatFixed (w &&& _)]
    simp (disch := decide) only [field_and_of_allOnes, field_and_of_zero, flag_and_of_true, flag_and_of_false, hmajor, hfo]
    rfl
  exact ⟨hmask, hcare⟩

/-- Majors 4, 6 and 7 read no other cell. -/
theorem undefMajor_row {w : Word} {major : MajorField} (hmajor : majorOf w = major) :
    w &&& 0x0E000000#32 = formatFixed 0#4 (major ++ 0#25) ∧ w &&& 0xFE000000#32 = formatFixed (condOf w) (major ++ 0#25) := by
  constructor <;> rw [eq_formatFixed_major (w &&& _)] <;>
    simp (disch := decide) only [field_and_of_allOnes, field_and_of_zero, hmajor]

/-! Major 0 by `fo` and `se` (R68), and the guard that R68 and R69 share: the space of the PSR and exchange words. -/

theorem decodeMajor0_of_not_fo {w : Word} (hfo : foOf w = false) :
    decodeMajor0 w = if !sOf w && opHiOf w then decodeMisc w else decodeDpShiftImm w := by
  simp [decodeMajor0, hfo]

theorem decodeMajor0_of_fo {w : Word} (hse : seOf w = false) (hfo : foOf w = true) :
    decodeMajor0 w = if !sOf w && opHiOf w then decodeMisc w else decodeDpShiftReg w := by
  simp [decodeMajor0, hse, hfo]

theorem decodeMajor0_of_se {w : Word} (hse : seOf w = true) (hfo : foOf w = true) :
    decodeMajor0 w = .unresolvedMultiplyExtendedLoadStore (condOf w) := by
  simp [decodeMajor0, hse, hfo]

theorem psrGuard_iff (w : Word) : (!sOf w && opHiOf w) = true ↔ sOf w = false ∧ field w 23 2 = 0b10#2 := by
  simp only [Bool.and_eq_true, Bool.not_eq_true', beq_iff_eq]

theorem reads_decodeMajor0 {w : Word} (hmajor : majorOf w = 0b000#3) : (decodeMajor0 w).Reads w := by
  cases hfo : foOf w with
  | false =>
    rw [decodeMajor0_of_not_fo hfo]
    split_ifs with hmisc
    · obtain ⟨hs, hop⟩ := (psrGuard_iff w).mp hmisc
      exact reads_decodeMisc hmajor hop hs (by rw [hfo, Bool.false_and])
    · exact reads_decodeDpShiftImm hmajor hfo (Bool.eq_false_iff.mpr hmisc)
  | true =>
    cases hse : seOf w with
    | false =>
      rw [decodeMajor0_of_fo hse hfo]
      split_ifs with hmisc
      · obtain ⟨hs, hop⟩ := (psrGuard_iff w).mp hmisc
        exact reads_decodeMisc hmajor hop hs (by rw [hse, Bool.and_false])
      · exact reads_decodeDpShiftReg hmajor hse hfo (Bool.eq_false_iff.mpr hmisc)
    | true =>
      rw [decodeMajor0_of_se hse hfo]
      exact reads_unresolved hmajor hse hfo

theorem reads_decodeMajor1 {w : Word} (hmajor : majorOf w = 0b001#3) : (decodeMajor1 w).Reads w := by
  unfold decodeMajor1
  split_ifs with hmsr hband
  · obtain ⟨hband, hopLo⟩ := Bool.and_eq_true_iff.mp hmsr
    obtain ⟨hs, hop⟩ := (psrGuard_iff w).mp hband
    exact reads_msrImm hmajor hop hs hopLo
  · rw [hband, Bool.true_and, Bool.not_eq_true] at hmsr
    obtain ⟨hs, hop⟩ := (psrGuard_iff w).mp hband
    exact reads_undefMajor1Band hmajor hop hs hmsr
  · exact reads_decodeDpRotImm hmajor (Bool.eq_false_iff.mpr hband)

theorem reads_decode (w : Word) : (decode w).Reads w := by
  unfold decode
  split <;> rename_i hmajor
  · exact reads_decodeMajor0 hmajor
  · exact reads_decodeMajor1 hmajor
  · exact reads_decodeTransferImm hmajor
  · split_ifs with hfo
    · exact reads_undefMajor3Bit4 hmajor hfo
    · exact reads_decodeTransferReg hmajor (Bool.eq_false_iff.mpr hfo)
  · exact undefMajor_row hmajor
  · exact reads_decodeBranch hmajor
  · exact undefMajor_row hmajor
  · exact undefMajor_row hmajor

end Sys2Proof
end

section
/-! PROOFS. The statements about the decoder and the opcode table (spec/30_encoding.md sections 5, 8 and 9): every row's masks
compared once and for all by evaluation, and every word through `reads_decode`. -/

namespace Sys2Proof

/-- Settles O31: the second half of `reads_decode`. -/
theorem encodeOfDecodeKeepsEveryReadBit : Obligations.EncodeOfDecodeKeepsEveryReadBit :=
  fun w => ⟨(decode w).row, getElem?_rowIndex _, (reads_decode w).2.symm⟩

/-- Any two rows fix some common bit to different values. -/
theorem opcodeTable_rows_disjoint :
    opcodeTable.Pairwise fun r r' => (r.pattern ^^^ r'.pattern) &&& (r.mask &&& r'.mask) ≠ 0#32 := by decide

/-- A row reads every bit it fixes. -/
theorem mask_subset_care : ∀ r ∈ opcodeTable, r.care &&& r.mask = r.mask := by decide

theorem TableRow.matches_iff (r : TableRow) (w : Word) : r.matches w = true ↔ w &&& r.mask = r.pattern := beq_iff_eq

theorem row_mem (i : Instr) : i.row ∈ opcodeTable := List.getElem_mem _

theorem row_decode_matches (w : Word) : (decode w).row.matches w = true :=
  (TableRow.matches_iff ..).mpr (reads_decode w).1

/-- Rows that one word matches agree on every bit that both fix. -/
theorem pattern_xor_of_matches {r r' : TableRow} {w : Word} (h : r.matches w = true) (h' : r'.matches w = true) :
    (r.pattern ^^^ r'.pattern) &&& (r.mask &&& r'.mask) = 0#32 := by
  rw [TableRow.matches_iff] at h h'
  rw [← h, ← h']
  ext i hi
  simp only [BitVec.getElem_and, BitVec.getElem_xor, BitVec.getElem_zero]
  cases w[i] <;> cases r.mask[i] <;> cases r'.mask[i] <;> rfl

/-- No word matches two rows. -/
theorem index_eq_of_matches {j k : Nat} {r r' : TableRow} {w : Word} (hj : opcodeTable[j]? = some r)
    (hk : opcodeTable[k]? = some r') (h : r.matches w = true) (h' : r'.matches w = true) : j = k := by
  obtain ⟨hjlt, rfl⟩ := List.getElem?_eq_some_iff.mp hj
  obtain ⟨hklt, rfl⟩ := List.getElem?_eq_some_iff.mp hk
  have hdisjoint := List.pairwise_iff_getElem.mp opcodeTable_rows_disjoint
  rcases Nat.lt_trichotomy j k with hlt | heq | hgt
  · exact (hdisjoint j k hjlt hklt hlt (pattern_xor_of_matches h h')).elim
  · exact heq
  · exact (hdisjoint k j hklt hjlt hgt (pattern_xor_of_matches h' h)).elim

theorem matches_iff_rowIndex_eq {w : Word} {k : Nat} {r : TableRow} (hk : opcodeTable[k]? = some r) :
    r.matches w = true ↔ (decode w).rowIndex = k := by
  constructor
  · exact fun h => index_eq_of_matches (getElem?_rowIndex _) hk (row_decode_matches w) h
  · rintro rfl
    obtain rfl := Option.some.inj ((getElem?_rowIndex (decode w)).symm.trans hk)
    exact row_decode_matches w

/-- Settles O34: a word matches the row it decodes to, and no other. -/
theorem decoderAgreesWithTheOpcodeTable : Obligations.DecoderAgreesWithTheOpcodeTable :=
  ⟨fun _ _ _ => matches_iff_rowIndex_eq, fun _ => rowIndex_lt _⟩

/-! Only the transfers and the branches have a field that their row also fixes; the other rows are well formed by their type. -/

theorem wf_decodeTransferImm (w : Word) : (decodeTransferImm w).wf = true := by
  unfold decodeTransferImm
  split <;> simp only [Instr.wf, wfP1_iff, wfP0_iff, wfT_iff, and_self, *]

theorem wf_decodeTransferReg (w : Word) : (decodeTransferReg w).wf = true := by
  unfold decodeTransferReg
  split <;> simp only [Instr.wf, wfP1_iff, wfP0_iff, wfT_iff, and_self, *]

theorem wf_decodeBranch (w : Word) : (decodeBranch w).wf = true := by
  unfold decodeBranch
  split <;> simp_all [Instr.wf]

theorem wf_decodeMisc (w : Word) : (decodeMisc w).wf = true := by
  unfold decodeMisc
  split <;> rfl

theorem wf_decodeDpShiftImm (w : Word) : (decodeDpShiftImm w).wf = true := by
  unfold decodeDpShiftImm
  split <;> rfl

theorem wf_decodeDpShiftReg (w : Word) : (decodeDpShiftReg w).wf = true := by
  unfold decodeDpShiftReg
  split <;> rfl

theorem wf_decodeDpRotImm (w : Word) : (decodeDpRotImm w).wf = true := by
  unfold decodeDpRotImm
  split <;> rfl

theorem wf_decodeMajor0 (w : Word) : (decodeMajor0 w).wf = true := by
  unfold decodeMajor0
  split_ifs
  · rfl
  · exact wf_decodeMisc w
  · exact wf_decodeDpShiftReg w
  · exact wf_decodeMisc w
  · exact wf_decodeDpShiftImm w

theorem wf_decodeMajor1 (w : Word) : (decodeMajor1 w).wf = true := by
  unfold decodeMajor1
  split_ifs
  · rfl
  · rfl
  · exact wf_decodeDpRotImm w

theorem wf_decode (w : Word) : (decode w).wf = true := by
  unfold decode
  split
  · exact wf_decodeMajor0 w
  · exact wf_decodeMajor1 w
  · exact wf_decodeTransferImm w
  · split_ifs
    · rfl
    · exact wf_decodeTransferReg w
  · rfl
  · exact wf_decodeBranch w
  · rfl
  · rfl

/-- Settles O33: `wf_decode`, down the decode tree to the two transfer decoders and the branch. -/
theorem decodedInstructionsAreWellFormed : Obligations.DecodedInstructionsAreWellFormed :=
  wf_decode

/-- Settles O32: `v` has the row's fixed bits too, so both words decode in that row. Both then encode to the same read bits, and
the decoder reads its instruction back from those. -/
theorem ignoredBitsNeverMatter : Obligations.IgnoredBitsNeverMatter := by
  intro v w r hr hcare
  obtain rfl := Option.some.inj ((getElem?_rowIndex (decode w)).symm.trans hr)
  have hmatch : v &&& (decode w).row.mask = (decode w).row.pattern := by
    rw [← mask_subset_care _ (row_mem _), ← BitVec.and_assoc, hcare, BitVec.and_assoc, mask_subset_care _ (row_mem _)]
    exact (reads_decode w).1
  have hindex : (decode v).rowIndex = (decode w).rowIndex :=
    (matches_iff_rowIndex_eq hr).mp ((TableRow.matches_iff ..).mpr hmatch)
  have hrow : (decode v).row = (decode w).row := by
    simp only [Instr.row, hindex]
  have hencode : encode (decode v) = encode (decode w) := by
    rw [← (reads_decode v).2, ← (reads_decode w).2, hrow, hcare]
  rw [← decode_encode (wf_decode v), hencode, decode_encode (wf_decode w)]

end Sys2Proof
end

section
/-! PROOFS. A step as `decode_arm` of the word presented, what it leaves at the ports, and runs of such steps
(spec/30_encoding.md section 10; spec/10_state.md; spec/70_reset_and_hazards.md). -/

namespace Sys2Proof.Machine

/-- Settles O36: `decodeArm` is `operationOf` under the word's condition, and `step_eq_deliver` delivers that. -/
theorem stepIsDecodeArm : Obligations.StepIsDecodeArm := by
  intro s
  rw [step_eq_deliver]
  cases hop : operationOf s.present.instr with
  | ok op => rw [decodeArm_of_ok hop]; rfl
  | error f => rw [decodeArm_of_error hop]; rfl

/-- The one next state a step can answer: the presented state with `decode_arm` of its word at the output. -/
theorem eq_of_step_eq_next {s t : State} (h : step s = .next t) :
    t = { s.present with result := decodeArm s.present.instr } := by
  rw [step_eq_deliver] at h
  cases hop : operationOf s.present.instr with
  | ok op =>
    rw [hop, deliver_ok, drive_eq_next_iff] at h
    rw [h, decodeArm_of_ok hop]
  | error f =>
    rw [hop, deliver_error] at h
    exact (refuse_ne_next _ _ _ h).elim

theorem portsAgree_iff (s : State) : s.portsAgree = true ↔ s.result = decodeArm s.instr := beq_iff_eq

theorem present_of_feed_nil {s : State} (h : s.feed = []) : s.present = s := by
  rw [State.present, h]

/-- Settles O37: `eq_of_step_eq_next` gives the state, and with an empty feed the presented state is the old one. -/
theorem everyStepLeavesThePortsInAgreement : Obligations.EveryStepLeavesThePortsInAgreement := by
  constructor
  · intro s t hstep
    rw [portsAgree_iff, eq_of_step_eq_next hstep]
  · intro s t hports hfeed hstep
    rw [portsAgree_iff] at hports
    rw [eq_of_step_eq_next hstep, present_of_feed_nil hfeed, ← hports]

/-- Settles O38: the zero word is a literal, so `decode_arm` runs on it. -/
theorem portsAgreeBeforeTheFirstStep : Obligations.PortsAgreeBeforeTheFirstStep := by
  refine ⟨?_, reset_feed⟩
  rw [portsAgree_iff]
  rfl

/-- A run over words outside the unresolved space, one step for each, keeps nothing but the last of them. -/
theorem run_of_feed {ws rest : List Word} (hne : ws ≠ []) {s : State} (hws : ∀ w ∈ ws, unresolvedWord w = false)
    (hfeed : s.feed = ws ++ rest) :
    Sys2Proof.core.run ws.length s = .next ⟨ws.getLast hne, decodeArm (ws.getLast hne), rest⟩ := by
  induction ws generalizing s with
  | nil => exact (hne rfl).elim
  | cons w vs ih =>
    obtain ⟨hw, hvs⟩ := List.forall_mem_cons.mp hws
    rw [List.length_cons, run_succ_of_next _ (step_of_feed_cons hfeed hw)]
    cases vs with
    | nil => exact run_zero _
    | cons v us =>
      rw [List.getLast_cons (List.cons_ne_nil v us)]
      exact ih (List.cons_ne_nil v us) hvs rfl

/-- Settles O39: the loaded feed is the one `run_of_feed` speaks of. -/
theorem runPresentsEveryWordInOrder : Obligations.RunPresentsEveryWordInOrder :=
  fun _ _ hne _ hws => run_of_feed hne hws rfl

/-- The decoder on numbers takes the numbers of at most one word, below the bound that their length gives (R60). -/
theorem decodeTableWord_eq_some_iff (n w : Nat) (i : Instr) :
    decodeTableWord n w = some i ↔ n ≤ Config.instructionBits ∧ w < 2 ^ n ∧ decode (BitVec.ofNat 32 w) = i := by
  unfold decodeTableWord decodeNumber
  split_ifs with hlong habove
  · simp [Except.toOption, hlong]
  · simp [Except.toOption, habove]
  · simp [Except.toOption, Nat.le_of_not_lt hlong, Nat.lt_of_not_le habove]

theorem present_withFetchWord (s : State) {n w : Nat} (h : w < 2 ^ n) :
    (s.withFetchWord n w).present = { s with instr := BitVec.ofNat 32 w } := by
  have hfeed := withFetchWord_feed s n w
  rw [Nat.mod_eq_of_lt h] at hfeed
  rw [present_of_feed_cons hfeed, withFetchWord_result]

/-- Settles O41: `step_eq` in each of the three presented states. -/
theorem stepRunsTheDecodedInstruction : Obligations.StepRunsTheDecodedInstruction := by
  refine ⟨?_, ?_, ?_⟩
  · rintro s w rest i hfeed rfl -
    rw [step_eq, present_of_feed_cons hfeed]
  · rintro s i hfeed rfl -
    rw [step_eq, present_of_feed_nil hfeed]
  · intro s n w i hi
    obtain ⟨-, hlt, rfl⟩ := (decodeTableWord_eq_some_iff ..).mp hi
    rw [step_eq, present_withFetchWord s hlt]

end Sys2Proof.Machine
end

section
/-! PROOFS. What the meaning of any instruction can answer, and the mnemonic of its row (spec/10_state.md section 3;
spec/opcode_table.json). -/

namespace Sys2Proof.Machine

/-- Every row but the unresolved one drives, under its own condition, an operation that its mnemonic names; that one refuses. -/
theorem exec_eq_drive_or_refuse (i : Instr) (s : State) :
    (∃ op, exec i s = s.drive i.cond op ∧ op.mnemonic = i.row.mnemonic) ∨
    (exec i s = s.refuse .multiplyExtendedLoadStore ∧ i.row.mnemonic = "Unresolved(MultiplyExtendedLoadStore)") := by
  cases i
  case unresolvedMultiplyExtendedLoadStore => exact .inr ⟨rfl, rfl⟩
  all_goals exact .inl ⟨_, rfl, rfl⟩

/-- Settles O42: only `drive` answers a next state, and it writes nothing but the output port. -/
theorem execLeavesInputAndFeedAlone : Obligations.ExecLeavesInputAndFeedAlone := by
  intro i s t hnext
  rcases exec_eq_drive_or_refuse i s with ⟨op, hdrive, -⟩ | ⟨hrefuse, -⟩
  · rw [hdrive, drive_eq_next_iff] at hnext
    subst hnext
    exact ⟨rfl, rfl, op, rfl⟩
  · exact (refuse_ne_next _ _ _ (hrefuse.symm.trans hnext)).elim

/-- The operation can be read off the output port. -/
theorem operation_eq_of_drive_eq_next {s t : State} {c : CondField} {cond : Condition} {op op' : Operation}
    (h : s.drive c op = .next { t with result := .ok ⟨cond, op'⟩ }) : op' = op := by
  rw [drive_eq_next_iff] at h
  simp only [State.mk.injEq, DecodeResult.ok.injEq, Decoded.mk.injEq] at h
  exact h.2.1.2

theorem mnemonic_ne_unresolved (op : Operation) : op.mnemonic ≠ "Unresolved(MultiplyExtendedLoadStore)" := by
  cases op <;> exact of_decide_eq_true rfl

/-- The row of the table that a word matches is the row it decodes to. -/
theorem eq_row_of_matches {r : TableRow} {w : Word} (hr : r ∈ opcodeTable) (hmatch : r.matches w = true) :
    r = (decode w).row := by
  obtain ⟨k, hk⟩ := List.getElem?_of_mem hr
  rw [matches_iff_rowIndex_eq hk] at hmatch
  rw [← hmatch, getElem?_rowIndex] at hk
  exact (Option.some.inj hk).symm

/-- Settles O35: the row matched is the row of the decoded instruction, whose meaning either drives an operation of that name or
is the refusal. -/
theorem tableMnemonicNamesTheOutput : Obligations.TableMnemonicNamesTheOutput := by
  intro s r hr hmatch
  obtain rfl := eq_row_of_matches hr hmatch
  simp only [State.Answers, step_eq]
  rcases exec_eq_drive_or_refuse (decode s.present.instr) s.present with ⟨op, hdrive, hname⟩ | ⟨hrefuse, hname⟩
  · simp only [hdrive, drive_ne_refused, exists_false, false_iff]
    constructor
    · intro op' hanswer
      rw [operation_eq_of_drive_eq_next hanswer, hname]
    · exact hname ▸ mnemonic_ne_unresolved op
  · simp only [hrefuse, hname, iff_true]
    exact ⟨fun op hanswer => (refuse_ne_next _ _ _ hanswer).elim, _, rfl⟩

end Sys2Proof.Machine
end

section
/-! PROOFS. The tables and the sign-extension primitive (spec/30_encoding.md sections 3, 4 and 7). -/

namespace Sys2Proof.Machine

/-- Settles O1: the codes are literals, so the mapper runs on them. -/
theorem conditionCodesAreTheSixteenOfTheList : Obligations.ConditionCodesAreTheSixteenOfTheList := by
  unfold Obligations.ConditionCodesAreTheSixteenOfTheList
  decide

/-- Settles O2: the codes are literals. -/
theorem shiftTypesByTheirCodes : Obligations.ShiftTypesByTheirCodes := by
  unfold Obligations.ShiftTypesByTheirCodes
  decide

/-- The upper byte that R64 sets is the one that sign extension copies bit 23 to. -/
theorem sext24_eq_signExtend (v : Word) : sext24 v = (v.setWidth 24).signExtend 32 := by
  have hlow : field v 0 24 = v.setWidth 24 := (BitVec.setWidth_eq_extractLsb' (by decide)).symm
  have hsign : flag v 23 = (v.setWidth 24).msb := by
    rw [flag_eq_getLsbD, BitVec.msb_setWidth]
    rfl
  rw [sext24, hlow, hsign]
  generalize v.setWidth 24 = x
  split_ifs with hmsb
  · have hones : ∀ i (hi : i < 32), (0xFF000000#32)[i] = !decide (i < 24) := by decide
    rw [BitVec.signExtend_eq_not_setWidth_not_of_msb_true hmsb]
    ext i hi
    simp [hones i hi, Bool.or_comm]
  · exact (BitVec.signExtend_eq_setWidth_of_msb_false (Bool.eq_false_iff.mpr hmsb)).symm

/-- Settles O4: a sign extension keeps the signed value of the low 24 bits. -/
theorem signExtensionOfTheLowTwentyFourBits : Obligations.SignExtensionOfTheLowTwentyFourBits := by
  intro v
  refine ⟨?_, sext24_eq_signExtend v⟩
  have hsign : (v.setWidth 24).msb = v.getLsbD 23 := BitVec.msb_setWidth ..
  rw [sext24Int, sext24_eq_signExtend, BitVec.toInt_signExtend_of_le (by decide), BitVec.toInt_eq_msb_cond, hsign,
    BitVec.toNat_setWidth]
  rfl

end Sys2Proof.Machine
end

section
/-! PROOFS. The meaning of every row, written out: each drives its operation under its condition and leaves the rest of the state
(spec/40_data_processing.md, spec/41_misc_psr.md, spec/42_single_data_transfer.md, spec/43_branch.md,
spec/44_undefined_unresolved.md). -/

namespace Sys2Proof.Machine

/-- Settles O5: each meaning unfolds to its clause. -/
theorem rowsShiftedByImmediateComplete : Obligations.RowsShiftedByImmediateComplete := by
  intro cond sf rn rd shiftImm shift rm st
  exact ⟨rfl, rfl, rfl, rfl, rfl, rfl, rfl, rfl, rfl, rfl, rfl, rfl, rfl, rfl, rfl, rfl⟩

/-- Settles O6: each meaning unfolds to its clause. -/
theorem rowsShiftedByRegisterComplete : Obligations.RowsShiftedByRegisterComplete := by
  intro cond sf rn rd rs shift rm st
  exact ⟨rfl, rfl, rfl, rfl, rfl, rfl, rfl, rfl, rfl, rfl, rfl, rfl, rfl, rfl, rfl, rfl⟩

/-- Settles O7: each meaning unfolds to its clause. -/
theorem rowsWithRotatedImmediateComplete : Obligations.RowsWithRotatedImmediateComplete := by
  intro cond sf rn rd rotate imm8 st
  exact ⟨rfl, rfl, rfl, rfl, rfl, rfl, rfl, rfl, rfl, rfl, rfl, rfl, rfl, rfl, rfl, rfl⟩

/-- Settles O8: each meaning unfolds to its clause. -/
theorem psrAndExchangeRowsComplete : Obligations.PsrAndExchangeRowsComplete := by
  intro cond r rd rm mask rotate imm8 st
  exact ⟨rfl, rfl, rfl, rfl⟩

/-- Settles O9: well-formedness gives `p`, and `wb` where `p` is clear; with those the indexing of R161 is the clause's. -/
theorem transferRowsWithImmediateOffsetComplete : Obligations.TransferRowsWithImmediateOffsetComplete := by
  intro cond p u byte wb l rn rd imm12 st
  simp only [Instr.wf, wfP1_iff, wfP0_iff, wfT_iff, and_imp]
  refine ⟨?_, ?_, ?_, ?_, ?_, ?_, ?_, ?_, ?_, ?_, ?_, ?_⟩ <;> intros <;> subst_vars <;> rfl

/-- Settles O10: as for the immediate offset, with the register offset of R78. -/
theorem transferRowsWithRegisterOffsetComplete : Obligations.TransferRowsWithRegisterOffsetComplete := by
  intro cond p u byte wb l rn rd shiftImm shift rm st
  simp only [Instr.wf, wfP1_iff, wfP0_iff, wfT_iff, and_imp]
  refine ⟨?_, ?_, ?_, ?_, ?_, ?_, ?_, ?_, ?_, ?_, ?_, ?_⟩ <;> intros <;> subst_vars <;> rfl

/-- Settles O11: well-formedness fixes the link bit of each row. -/
theorem branchRowsComplete : Obligations.BranchRowsComplete := by
  intro cond link offset24 st
  simp only [Instr.wf, Bool.not_eq_true']
  constructor <;> rintro rfl <;> rfl

/-- Settles O12: row by row. -/
theorem undefinedRowsComplete : Obligations.UndefinedRowsComplete := by
  intro cond st i hi
  fin_cases hi <;> rfl

end Sys2Proof.Machine
end

section
/-! PROOFS. The arms of `decode_arm` (spec/30_encoding.md R67 to R69): what a step answers for a word that meets an arm's guard,
and, read backwards, the one arm that an answered operation comes from. -/

namespace Sys2Proof.Machine

theorem major0_of_not_fo {w : Word} (hfo : foOf w = false) :
    major0 w = .ok (if !sOf w && opHiOf w then misc w
      else dataProcessing w (op2ShiftImm (shiftImmOf w) (shiftOf w) (rmOf w))) := by
  simp only [major0, hfo, Bool.false_and, Bool.not_false, Bool.true_and, Bool.false_eq_true, if_false]
  split_ifs <;> rfl

theorem major0_of_fo {w : Word} (hse : seOf w = false) (hfo : foOf w = true) :
    major0 w = .ok (if !sOf w && opHiOf w then misc w
      else dataProcessing w (op2ShiftReg (rsOf w) (shiftOf w) (rmOf w))) := by
  simp only [major0, hse, hfo, Bool.and_false, Bool.not_false, Bool.true_and, Bool.false_eq_true, if_false, if_true]
  split_ifs <;> rfl

/-- The arm of a word's operation, with the guard under which `decode_arm` takes it. -/
inductive Arm (w : Word) : Operation → Prop
  | dataProcessing (op2 : Op2) (hmajor : majorOf w = 0#3 ∨ majorOf w = 1#3) (hdp : (!sOf w && opHiOf w) = false) :
    Arm w (dataProcessing w op2)
  | misc (hmajor : majorOf w = 0#3) (hs : sOf w = false) (hop : field w 23 2 = 0b10#2) (hne : (foOf w && seOf w) = false) :
    Arm w (misc w)
  | msrImmediate : Arm w (msrImmediate w)
  | undefinedBand (hmajor : majorOf w = 1#3) (hs : sOf w = false) (hop : field w 23 2 = 0b10#2) (hopLo : opLoOf w = false) :
    Arm w .undefined
  | transfer (offset : Offset2) : Arm w (transfer w offset)
  | undefinedBit4 (hmajor : majorOf w = 3#3) (hfo : foOf w = true) : Arm w .undefined
  | branch : Arm w (branch w)
  | undefinedMajor (hmajor : majorOf w = 4#3 ∨ majorOf w = 6#3 ∨ majorOf w = 7#3) : Arm w .undefined

theorem arm_miscOrDataProcessing {w : Word} (hmajor : majorOf w = 0#3) (hne : (foOf w && seOf w) = false) (op2 : Op2) :
    Arm w (if !sOf w && opHiOf w then misc w else dataProcessing w op2) := by
  split_ifs with hmisc
  · obtain ⟨hs, hop⟩ := (psrGuard_iff w).mp hmisc
    exact .misc hmajor hs hop hne
  · exact .dataProcessing op2 (.inl hmajor) (Bool.eq_false_iff.mpr hmisc)

theorem arm_of_major0 {w : Word} {op : Operation} (hmajor : majorOf w = 0#3) (h : major0 w = .ok op) : Arm w op := by
  have hne : (foOf w && seOf w) = false := by
    rw [← Bool.not_eq_true, ← major0_eq_error_iff w .multiplyExtendedLoadStore, h]
    exact nofun
  cases hfo : foOf w with
  | false => exact Except.ok.inj ((major0_of_not_fo hfo).symm.trans h) ▸ arm_miscOrDataProcessing hmajor hne _
  | true =>
    have hse : seOf w = false := by rwa [hfo, Bool.true_and] at hne
    exact Except.ok.inj ((major0_of_fo hse hfo).symm.trans h) ▸ arm_miscOrDataProcessing hmajor hne _

theorem arm_major1 {w : Word} (hmajor : majorOf w = 1#3) : Arm w (major1 w) := by
  dsimp only [major1]
  split_ifs with hmsr hband
  · exact .msrImmediate
  · rw [hband, Bool.true_and, Bool.not_eq_true] at hmsr
    obtain ⟨hs, hop⟩ := (psrGuard_iff w).mp hband
    exact .undefinedBand hmajor hs hop hmsr
  · exact .dataProcessing _ (.inr hmajor) (Bool.eq_false_iff.mpr hband)

theorem arm_of_operationOf {w : Word} {op : Operation} (h : operationOf w = .ok op) : Arm w op := by
  unfold operationOf at h
  split at h <;> rename_i hmajor
  · exact arm_of_major0 hmajor h
  · exact Except.ok.inj h ▸ arm_major1 hmajor
  · exact Except.ok.inj h ▸ .transfer _
  · split_ifs at h with hfo
    · exact Except.ok.inj h ▸ .undefinedBit4 hmajor hfo
    · exact Except.ok.inj h ▸ .transfer _
  · exact Except.ok.inj h ▸ .undefinedMajor (.inl hmajor)
  · exact Except.ok.inj h ▸ .branch
  · exact Except.ok.inj h ▸ .undefinedMajor (.inr (.inl hmajor))
  · exact Except.ok.inj h ▸ .undefinedMajor (.inr (.inr hmajor))

section Answers

variable {s : State}

theorem answers_dpShiftImm (hmajor : majorOf s.present.instr = 0#3) (hfo : foOf s.present.instr = false)
    (hdp : (!sOf s.present.instr && opHiOf s.present.instr) = false) :
    s.Answers (dataProcessing s.present.instr
      (op2ShiftImm (shiftImmOf s.present.instr) (shiftOf s.present.instr) (rmOf s.present.instr))) := by
  rw [answers_iff, operationOf, hmajor]
  exact (major0_of_not_fo hfo).trans (by rw [hdp]; rfl)

theorem answers_dpShiftReg (hmajor : majorOf s.present.instr = 0#3) (hse : seOf s.present.instr = false)
    (hfo : foOf s.present.instr = true) (hdp : (!sOf s.present.instr && opHiOf s.present.instr) = false) :
    s.Answers (dataProcessing s.present.instr
      (op2ShiftReg (rsOf s.present.instr) (shiftOf s.present.instr) (rmOf s.present.instr))) := by
  rw [answers_iff, operationOf, hmajor]
  exact (major0_of_fo hse hfo).trans (by rw [hdp]; rfl)

theorem answers_dpRotImm (hmajor : majorOf s.present.instr = 1#3)
    (hdp : (!sOf s.present.instr && opHiOf s.present.instr) = false) :
    s.Answers (dataProcessing s.present.instr (op2Imm (rotateOf s.present.instr) (imm8Of s.present.instr))) := by
  rw [answers_iff, operationOf, hmajor]
  simp [major1, hdp]

theorem answers_misc (hmajor : majorOf s.present.instr = 0#3) (hs : sOf s.present.instr = false)
    (hop : field s.present.instr 23 2 = 0b10#2) (hne : (foOf s.present.instr && seOf s.present.instr) = false) :
    s.Answers (misc s.present.instr) := by
  have hmisc : (!sOf s.present.instr && opHiOf s.present.instr) = true := (psrGuard_iff _).mpr ⟨hs, hop⟩
  rw [answers_iff, operationOf, hmajor]
  cases hfo : foOf s.present.instr with
  | false => exact (major0_of_not_fo hfo).trans (by rw [hmisc]; rfl)
  | true => exact (major0_of_fo (by rwa [hfo, Bool.true_and] at hne) hfo).trans (by rw [hmisc]; rfl)

theorem answers_msrImmediate (hmajor : majorOf s.present.instr = 1#3) (hs : sOf s.present.instr = false)
    (hop : field s.present.instr 23 2 = 0b10#2) (hopLo : opLoOf s.present.instr = true) :
    s.Answers (msrImmediate s.present.instr) := by
  rw [answers_iff, operationOf, hmajor]
  simp [major1, hs, hop, hopLo]

theorem answers_undefined_of_band (hmajor : majorOf s.present.instr = 1#3) (hs : sOf s.present.instr = false)
    (hop : field s.present.instr 23 2 = 0b10#2) (hopLo : opLoOf s.present.instr = false) : s.Answers .undefined := by
  rw [answers_iff, operationOf, hmajor]
  simp [major1, hs, hop, hopLo]

theorem answers_undefined_of_bit4 (hmajor : majorOf s.present.instr = 3#3) (hfo : foOf s.present.instr = true) :
    s.Answers .undefined := by
  rw [answers_iff, operationOf, hmajor]
  exact if_pos hfo

end Answers

end Sys2Proof.Machine
end

section
/-! PROOFS. The words of data processing (spec/40_data_processing.md) and of PSR transfers and exchange
(spec/41_misc_psr.md). -/

namespace Sys2Proof.Machine

/-- An opcode whose upper half is not 10 is data processing with `s` set or clear. -/
theorem psrGuard_eq_false_of_opcode {w : Word} {opcode : OpcodeField} (hopcode : opcodeOf w = opcode)
    (hhi : opcode.extractLsb' 2 2 ≠ 0b10#2) : (!sOf w && opHiOf w) = false := by
  simp [← opcode_upper, hopcode, hhi]

/-- The three formats of one data-processing operation, whose operand-2 alone they differ in (R100). -/
theorem answers_threeForms {s : State} {operation : Op2 → Operation}
    (hdp : (!sOf s.present.instr && opHiOf s.present.instr) = false)
    (hoperation : ∀ op2, dataProcessing s.present.instr op2 = operation op2) :
    (field s.present.instr 25 3 = 0b000#3 → flag s.present.instr 4 = false →
      s.Answers (operation (.shift ⟨(field s.present.instr 0 4).toFin⟩ (shiftTable (field s.present.instr 5 2))
        (.imm (field s.present.instr 7 5))))) ∧
    (field s.present.instr 25 3 = 0b000#3 → flag s.present.instr 7 = false → flag s.present.instr 4 = true →
      s.Answers (operation (.shift ⟨(field s.present.instr 0 4).toFin⟩ (shiftTable (field s.present.instr 5 2))
        (.register ⟨(field s.present.instr 8 4).toFin⟩)))) ∧
    (field s.present.instr 25 3 = 0b001#3 →
      s.Answers (operation (.immediate (field s.present.instr 0 8) (field s.present.instr 8 4)))) := by
  simp only [← hoperation]
  exact ⟨fun hmajor hfo => answers_dpShiftImm hmajor hfo hdp, fun hmajor hse hfo => answers_dpShiftReg hmajor hse hfo hdp,
    fun hmajor => answers_dpRotImm hmajor hdp⟩

/-- Settles O14: none of the ten opcodes has the upper half 10, so bit 20 is free; the opcode picks the operation of R100. -/
theorem threeOperandAluWordsDecode : Obligations.ThreeOperandAluWordsDecode := by
  intro s x hx hopcode
  fin_cases hx <;>
    exact answers_threeForms (psrGuard_eq_false_of_opcode hopcode (by decide))
      (fun op2 => by rw [dataProcessing, opcodeOf, hopcode]; rfl)

/-- Settles O15: with bit 20 set the word is data processing whatever its opcode. -/
theorem comparisonWordsDecode : Obligations.ComparisonWordsDecode := by
  intro s x hx hopcode hs
  fin_cases hx <;>
    exact answers_threeForms (by rw [sOf, hs]; rfl) (fun op2 => by rw [dataProcessing, opcodeOf, hopcode]; rfl)

/-- Settles O16: as for the ten opcodes of O14. -/
theorem moveWordsDecode : Obligations.MoveWordsDecode := by
  intro s x hx hopcode
  fin_cases hx <;>
    exact answers_threeForms (psrGuard_eq_false_of_opcode hopcode (by decide))
      (fun op2 => by rw [dataProcessing, opcodeOf, hopcode]; rfl)

theorem op2?_dataProcessing (w : Word) (op2 : Op2) : (dataProcessing w op2).op2? = some op2 := by
  unfold dataProcessing
  cases aluTable (opcodeOf w) <;> rfl

/-- Settles O27: outside the band the word is data processing, whose operand-2 is the one R71 gives it. -/
theorem rotatedImmediateStaysRaw : Obligations.RotatedImmediateStaysRaw := by
  intro s hmajor hband
  have hdp : (!sOf s.present.instr && opHiOf s.present.instr) = false := by
    rcases hband with hs | hop
    · rw [sOf, hs]; rfl
    · simp [hop]
  exact ⟨_, answers_dpRotImm hmajor hdp, op2?_dataProcessing ..⟩

/-- The comparisons are the opcodes with the upper half 10 (R70). -/
theorem aluTable_comparison_iff (opcode : OpcodeField) :
    aluTable opcode ∈ [AluOp.tst, .teq, .cmp, .cmn] ↔ opcode.extractLsb' 2 2 = 0b10#2 := by
  revert opcode
  decide

theorem isComparison_dataProcessing_iff (w : Word) (op2 : Op2) :
    (dataProcessing w op2).isComparison = true ↔ field w 23 2 = 0b10#2 := by
  rw [← opcode_upper, ← aluTable_comparison_iff]
  unfold dataProcessing
  cases aluTable (opcodeOf w) <;> simp [Operation.isComparison]

theorem isComparison_misc (w : Word) : (misc w).isComparison = false := by
  dsimp only [misc]
  split_ifs <;> rfl

theorem isComparison_transfer (w : Word) (offset : Offset2) : (transfer w offset).isComparison = false := by
  rw [transfer, singleTransfer_eq_ite]
  split_ifs <;> rfl

/-- Settles O17: of the arms only data processing gives a comparison, and its guard asks for `s` there. -/
theorem comparisonsOnlyWithFlagsBit : Obligations.ComparisonsOnlyWithFlagsBit := by
  intro s op hanswer hcmp
  cases arm_of_operationOf ((answers_iff ..).mp hanswer) with
  | dataProcessing op2 hmajor hdp =>
    have hop := (isComparison_dataProcessing_iff ..).mp hcmp
    rw [opHiOf, hop, beq_self_eq_true, Bool.and_true, Bool.not_eq_false'] at hdp
    exact ⟨hdp, hop, hmajor⟩
  | misc => simp [isComparison_misc] at hcmp
  | transfer offset => simp [isComparison_transfer] at hcmp
  | msrImmediate => cases hcmp
  | branch => cases hcmp
  | undefinedBand => cases hcmp
  | undefinedBit4 => cases hcmp
  | undefinedMajor => cases hcmp

theorem foOf_eq_getLsbD_lo (w : Word) : foOf w = (loOf w).getLsbD 0 := (getLsbD_field w 4 4 0 (by decide) (by decide)).symm

theorem seOf_eq_getLsbD_lo (w : Word) : seOf w = (loOf w).getLsbD 3 := (getLsbD_field w 4 4 3 (by decide) (by decide)).symm

theorem misc_eq_mrs {w : Word} (hhi : hiOf w = false) (hlo : loOf w = 0b0000#4) : misc w = .mrs (reg (rdOf w)) (rOf w) := by
  simp [misc, hhi, hlo]

theorem misc_eq_msr {w : Word} (hhi : hiOf w = true) (hlo : loOf w = 0b0000#4) :
    misc w = .msr (reg (rmOf w)) (rOf w) ⟨flag w 16, flag w 17, flag w 18, flag w 19⟩ := by
  simp [misc, hhi, hlo, maskOf_field]

theorem misc_eq_bx {w : Word} (hhi : hiOf w = true) (hlo : loOf w = 0b0001#4) : misc w = .bx (reg (rmOf w)) := by
  simp [misc, hhi, hlo]

/-- Settles O18: `lo` gives bits 4 and 7, so the word is of the miscellaneous space, and R140 reads `hi` and `lo`. -/
theorem psrAndExchangeWordsDecode : Obligations.PsrAndExchangeWordsDecode := by
  intro s hmajor hop hs
  have hanswer := answers_misc hmajor hs hop
  rw [foOf_eq_getLsbD_lo, seOf_eq_getLsbD_lo] at hanswer
  refine ⟨fun hhi hlo => ?_, fun hhi hlo => ?_, fun hhi hlo => ?_⟩ <;> rw [loOf, hlo] at hanswer
  · exact misc_eq_mrs hhi hlo ▸ hanswer rfl
  · exact misc_eq_msr hhi hlo ▸ hanswer rfl
  · exact misc_eq_bx hhi hlo ▸ hanswer rfl

/-- Settles O19: the mask's lanes are bits 16 to 19. -/
theorem msrImmediateWordsDecode : Obligations.MsrImmediateWordsDecode := by
  intro s hmajor hop hs hopLo
  have hanswer := answers_msrImmediate hmajor hs hop hopLo
  rwa [msrImmediate, maskOf_field] at hanswer

end Sys2Proof.Machine
end

section
/-! PROOFS. Where `Undefined` comes from (spec/44_undefined_unresolved.md section 1), and the operands of the transfers
(spec/42_single_data_transfer.md section 1). -/

namespace Sys2Proof.Machine

theorem dataProcessing_ne_undefined (w : Word) (op2 : Op2) : dataProcessing w op2 ≠ .undefined := by
  unfold dataProcessing
  cases aluTable (opcodeOf w) <;> exact Operation.noConfusion

theorem transfer_ne_undefined (w : Word) (offset : Offset2) : transfer w offset ≠ .undefined := by
  rw [transfer, singleTransfer_eq_ite]
  split_ifs <;> exact Operation.noConfusion

/-- R140: what is no `Mrs`, `Msr` or `Bx`. -/
theorem misc_eq_undefined_iff (w : Word) :
    misc w = .undefined ↔ loOf w ≠ 0b0000#4 ∧ ¬(hiOf w = true ∧ loOf w = 0b0001#4) := by
  dsimp only [misc]
  cases hiOf w <;> split_ifs <;> simp_all

/-- Settles O21: each space has its arm, and an arm that gives `Undefined` is of one of the spaces. -/
theorem undefinedExactlyOnItsSpaces : Obligations.UndefinedExactlyOnItsSpaces := by
  intro s
  constructor
  · intro hanswer
    generalize hop : Operation.undefined = op at hanswer
    cases arm_of_operationOf ((answers_iff ..).mp hanswer) with
    | undefinedBit4 hmajor hfo => exact .inl ⟨hmajor, hfo⟩
    | undefinedMajor hmajor => exact .inr (hmajor.imp_right fun h => h.imp_right .inl)
    | undefinedBand hmajor hs hopHi hopLo => exact .inr (.inr (.inr (.inr (.inl ⟨hmajor, hs, hopHi, hopLo⟩))))
    | misc hmajor hs hopHi hne =>
      obtain ⟨hlo, hbx⟩ := (misc_eq_undefined_iff _).mp hop.symm
      exact .inr (.inr (.inr (.inr (.inr ⟨hmajor, hs, hopHi, hne, hlo, hbx⟩))))
    | dataProcessing op2 => exact (dataProcessing_ne_undefined _ _ hop.symm).elim
    | transfer offset => exact (transfer_ne_undefined _ _ hop.symm).elim
    | msrImmediate => cases hop
    | branch => cases hop
  · rintro (⟨hmajor, hfo⟩ | hmajor | hmajor | hmajor | ⟨hmajor, hs, hop, hopLo⟩ | ⟨hmajor, hs, hop, hne, hundef⟩)
    · exact answers_undefined_of_bit4 hmajor hfo
    · exact majorsFourSixSevenAreUndefined s (.inl hmajor)
    · exact majorsFourSixSevenAreUndefined s (.inr (.inl hmajor))
    · exact majorsFourSixSevenAreUndefined s (.inr (.inr hmajor))
    · exact answers_undefined_of_band hmajor hs hop hopLo
    · exact (misc_eq_undefined_iff _).mpr hundef ▸ answers_misc hmajor hs hop hne

/-- R160: whichever the constructor, its operands are the register of `rd` and the one mode. -/
theorem singleTransfer_operands (p u b wb l : Bool) (rn rd : RegField) (offset : Offset2) :
    ∃ op ∈ ([.ldr, .str, .ldrb, .strb, .ldrt, .strt, .ldrbt, .strbt] : List (Reg → Mode2 → Operation)),
      singleTransfer p u b wb l rn rd offset = op (reg rd) (mode2 p u wb rn offset) := by
  unfold singleTransfer
  split <;> simp

/-- Settles O24: the operands of `transfer` in each of the two majors. -/
theorem transferOperandsAreTheWordsFields : Obligations.TransferOperandsAreTheWordsFields := by
  intro s
  have hoperands {offset : Offset2} (hanswer : s.Answers (transfer s.present.instr offset)) :
      ∃ (rd : Reg) (m : Mode2), rd = ⟨(field s.present.instr 12 4).toFin⟩ ∧ m.base = ⟨(field s.present.instr 16 4).toFin⟩ ∧
        m.offset = offset ∧
        ∃ op ∈ ([.ldr, .str, .ldrb, .strb, .ldrt, .strt, .ldrbt, .strbt] : List (Reg → Mode2 → Operation)),
          s.Answers (op rd m) := by
    obtain ⟨op, hop, heq⟩ := singleTransfer_operands (pOf s.present.instr) (uOf s.present.instr) (bOf s.present.instr)
      (wbOf s.present.instr) (lOf s.present.instr) (rnOf s.present.instr) (rdOf s.present.instr) offset
    rw [transfer, heq] at hanswer
    exact ⟨_, _, rfl, mode2_base .., mode2_offset .., op, hop, hanswer⟩
  exact ⟨fun hmajor => hoperands (answers_transfer_of_major_two hmajor),
    fun hmajor hfo => hoperands (answers_transfer_of_major_three hmajor hfo)⟩

end Sys2Proof.Machine
end
